-- ==== Sys2Proof/Word.lean ====
section
/-! DEFINITION. The word types of the SC412: bytes of frames and of the port, and 16-bit words (masks, CRC). -/

namespace Sys2Proof

/-- A byte on the draw link or at the local port. -/
abbrev Byte := BitVec 8

/-- A 16-bit word: the CRC register and the sets of alarm kinds. -/
abbrev Word16 := BitVec 16

end Sys2Proof
end

