-- ==== Sys2Proof/Syntax.lean ====
section
/-! DEFINITION. The commands of the SC412: one constructor per row of spec/opcode_table.json. A row is an event on a pin or
on SDL, an event of one of the station's own units, or a request at the local port. -/

namespace Sys2Proof

/-- The two levels of SDL and SHD (00 section 3): dominant is pulled low by at least one station, recessive is released. -/
inductive Level where
  | dominant
  | recessive
  deriving DecidableEq, Repr

/-- The commands, in the order of the opcode table. The operands are those the rules name: a station ID, new levels of a
pin, a byte read, the bytes received at the port after the request code. -/
inductive Instr where
  | fullReset
  | startDelimiter
  | malformedStart
  | violation
  | tooLong
  | endDelimiter
  | lineIdle
  | attemptStart
  | lostArbitration
  | transmitFault
  | announceTimerExpiry
  | isolationTimer3P
  | isolationTimer40P
  | repeatTimerExpiry
  | duplicateTimerExpiry
  | peerLost (id : Nat)
  | peerForgotten (id : Nat)
  | takeAnnounce
  | takeIntent
  | takeSettle
  | takeLeave
  | takeOwnRecord
  | takeDuplicateRecord
  | takeErrorRecord
  | takeLossRecord
  | takeCheckRecord
  | holdWindowExpiry
  | retryTimerExpiry
  | listenTimerExpiry
  | sentNotice
  | droppedNotice
  | recalledNotice
  | isolatedNotice
  | isolationEndNotice
  | rejoinNotice
  | checkPassed
  | checkFailed
  | shedStartNotice
  | shedEndNotice
  | forceAlarmNotice
  | clearedNotice
  | pselChange (psel0 psel1 psel2 : Bool)
  | settleTimerExpiry
  | profileChangeEvent
  | shdObservedAsserted
  | shdObservedReleased
  | recoveryTimerExpiry
  | pwmeEdge (rising : Bool)
  | blankingEnd
  | senseChange (level : Nat)
  | trip
  | tripHoldEnd
  | cleanTimerExpiry
  | followTimerExpiry
  | transactionStart
  | unknownRequest (code : Byte)
  | nop
  | readStatus
  | readSnapshot (params : List Byte)
  | readCapture
  | readCounters (params : List Byte)
  | configure (params : List Byte)
  | join
  | leave
  | setTarget (params : List Byte)
  | reEnable
  | assertShed
  | releaseShed
  | clearAlarms (params : List Byte)
  | takeSnapshot
  | lineCheck (params : List Byte)
  | stopCheck
  | wholeByte (b : Byte)
  | sdlDominant
  | shdLevelChange (level : Level)
  | endOfFullReset
  | resetIgnoreEnd
  | transactionWithoutRequest
  deriving DecidableEq, Repr

end Sys2Proof
end

