-- ==== Sys2Proof/Config.lean ====
section
/-! DEFINITION. The free values: what the spec leaves open and each run of the hardware fixes. No body: no proof can
know a value of one. -/

namespace Sys2Proof

/-- Which of several events that are due together the block takes first, and how long CE waits before it takes a record or
a notice. The spec allows every order (for example R93, R134, R157) and fixes no pace for CE (section 4 of chapter 1).
Applied to `State.freeCount`, which the step then advances. DESIGN CHOICE, safe: log 2. -/
opaque Config.freeChoice : Nat → Nat

/-- Whether a timer value that is no whole multiple of 0.1 ms is reported rounded up. R183 gives the unit and no rounding.
Applied to the value in units of 0.25 µs. DESIGN CHOICE, safe: log 13. -/
opaque Config.roundsUp : Nat → Bool

/-- The two value bytes of an absent capture slot in the READ CAPTURE response. R183 gives them no value. Applied to
`State.freeCount` and the slot's number. DESIGN CHOICE, safe: log 14. -/
opaque Config.absentSlotValue : Nat → Nat → Nat

end Sys2Proof
end

