-- ==== Sys2Proof/Machine/State.lean ====
section
/-! DEFINITION. The state of one SC412: every piece of state the chapters give its ten blocks, as plain data, with the
values of a full reset. Times are counted in units of 0.25 µs (log 1). Claims, budgets and counts are whole numbers. -/

namespace Sys2Proof.Machine

/-! ### Names of the manual -/

/-- The five frame kinds (R42). -/
inductive FrameKind where
  | settle
  | leave
  | intent
  | announce
  | check
  deriving DecidableEq, Repr

/-- The attach states (R98, R100). -/
inductive AttachState where
  | detached
  | listening
  | joining
  | member
  | leaving
  deriving DecidableEq, Repr

/-- The own intent states (R98). -/
inductive IntentState where
  | idle
  | opening
  | window
  | settling
  | retryWait
  deriving DecidableEq, Repr

/-- The outcomes of an intent (R46, R91). -/
inductive IntentOutcome where
  | granted
  | refused
  | deferred
  | withdrawn
  deriving DecidableEq, Repr

/-- The sign class of the headroom (R46, R89, R90). -/
inductive MarginClass where
  | negative
  | zero
  | positive
  deriving DecidableEq, Repr

/-- The attach state as an ANNOUNCE states it (R44). -/
inductive AnnouncedState where
  | listening
  | joining
  | member
  deriving DecidableEq, Repr

/-- The eleven alarm kinds (R164), in the order of their bits (R183). -/
inductive AlarmKind where
  | trip
  | tripLatched
  | overdrawPersistent
  | isolated
  | duplicateId
  | configMismatch
  | profileMismatch
  | framesLost
  | budgetDeficit
  | lineFault
  | shedSeen
  deriving DecidableEq, Repr

/-- The trip states (R156, R159). -/
inductive TripState where
  | clear
  | hold
  | latched
  deriving DecidableEq, Repr

/-- The trip modes (R156). -/
inductive TripMode where
  | report
  | latch
  | retry20
  | retry50
  | retryEdge
  deriving DecidableEq, Repr

/-- The observed state of SHD (R140). -/
inductive ShdObserved where
  | asserted
  | released
  deriving DecidableEq, Repr

/-! ### Frames and records -/

/-- The fields of an ANNOUNCE (R44, R49). `openIntent` is the intent number and the increment when the intent-open flag is
set, and none when it is clear. -/
structure AnnounceFields where
  attach : AnnouncedState
  profile : Nat
  committed : Nat
  floor : Nat
  digest : Nat
  openIntent : Option (Nat × Nat)
  deriving DecidableEq, Repr

/-- The fields of an INTENT (R45). They are also the fields of the current intent (R98). -/
structure IntentFields where
  number : Nat
  delta : Nat
  deltaMin : Nat
  committedBefore : Nat
  deriving DecidableEq, Repr

/-- The fields of a SETTLE (R46, R49). They are also the fields of the resolution (R92). The margin class is absent unless
the outcome is GRANTED or REFUSED. -/
structure SettleFields where
  number : Nat
  outcome : IntentOutcome
  margin : Option MarginClass
  granted : Nat
  committedAfter : Nat
  deriving DecidableEq, Repr

/-- The decoded fields of a GOOD record (R49). -/
inductive Decoded where
  | announce (f : AnnounceFields)
  | intent (f : IntentFields)
  | settle (f : SettleFields)
  | leave
  | check
  deriving DecidableEq, Repr

/-- What a record says of its frame: the six statuses of R11. Only a GOOD record has COUNT_MISMATCH and decoded fields. -/
inductive Content where
  | good (countMismatch : Bool) (fields : Decoded)
  | crcError
  | symbolError
  | tooLong
  | fragment
  | formatError
  deriving DecidableEq, Repr

/-- A frame record (R11). -/
structure FrameRecord where
  own : Bool
  kind : Option FrameKind
  sender : Option Nat
  length : Nat
  content : Content
  deriving DecidableEq, Repr

/-- A slot of the Receive Status Queue: a frame record or a LOSS record with its lost field (R16, R18). -/
inductive QueueRecord where
  | frame (r : FrameRecord)
  | loss (lost : Nat)
  deriving DecidableEq, Repr

/-! ### The units -/

/-- RESETN and the port's blind time (R173). `held`: a full reset is in progress. `blind`: the time left of the 100 µs
after its end. -/
structure ResetUnit where
  held : Bool
  blind : Option Nat
  deriving DecidableEq, Repr

/-- The levels of the input pins: a PSEL or PWME level is true when high; SENSE is a level in claim units (log 7). `sdl` is
none while SDL is recessive, and otherwise the time since the last dominant level began (R1, R3, R24, log 4). -/
structure Pins where
  sdl : Option Nat
  psel0 : Bool
  psel1 : Bool
  psel2 : Bool
  shd : Level
  sense : Nat
  pwme : Bool
  deriving DecidableEq, Repr

/-- The receive state (R4). HUNT holds whether idle has been seen, RECEIVING the whole bytes assembled. `starting` is HUNT too:
idle was seen, and `age` ago a dominant level began, which is a frame start or a glitch (R5). -/
inductive LrxState where
  | disabled
  | hunt (idleSeen : Bool)
  | starting (age : Nat)
  | receiving (bytes : List Byte)
  | discard
  deriving DecidableEq, Repr

/-- The Link Receiver: receive state, check-only mode (R13) and line count (R14; none is unset). -/
structure Lrx where
  state : LrxState
  checkOnly : Bool
  lineCount : Option Nat
  deriving DecidableEq, Repr

/-- The Receive Status Queue (R16), head first, and the pending-loss count (R17). -/
structure Rsq where
  records : List QueueRecord
  pendingLoss : Nat
  deriving DecidableEq, Repr

/-- A kind's stay in the pending set: its two counts and its renewal mark (R20). -/
structure PendEntry where
  lost : Nat
  fault : Nat
  renewal : Bool
  deriving DecidableEq, Repr

/-- The transmit pending set (R20): each kind at most once. -/
structure PendingSet where
  settle : Option PendEntry
  leave : Option PendEntry
  intent : Option PendEntry
  announce : Option PendEntry
  check : Option PendEntry
  deriving DecidableEq, Repr

/-- The attempt in flight (R22, R23): its kind, the frame built at its start, and whether CE has requested INTENT
since (R120 asks for the last INTENT attempt made since the latest request). -/
structure Attempt where
  kind : FrameKind
  frame : List Byte
  beforeRequest : Bool
  deriving DecidableEq, Repr

/-- The modes of a line check (R35). -/
inductive CheckMode where
  | single
  | untilFail
  | continuous
  deriving DecidableEq, Repr

/-- The phases of a run (R35). -/
inductive CheckPhase where
  | sending
  | waiting
  | stopping
  deriving DecidableEq, Repr

/-- Who began the run (R35). -/
inductive CheckOwner where
  | host
  | join
  deriving DecidableEq, Repr

/-- The last result of a line check (R35); none is NONE. -/
inductive CheckResult where
  | passed
  | failed
  deriving DecidableEq, Repr

/-- A run in progress (R35). -/
structure CheckRun where
  mode : CheckMode
  phase : CheckPhase
  deriving DecidableEq, Repr

/-- The line check (R35 to R37); no run is IDLE. -/
structure LineCheck where
  run : Option CheckRun
  owner : Option CheckOwner
  lastResult : Option CheckResult
  failCounter : Nat
  repeatTimer : Option Nat
  deriving DecidableEq, Repr

/-- The capture memory (R38): eight slots, the first-mismatch index, and whether a failure of this run has frozen it. -/
structure Capture where
  slots : List (Option Nat)
  index : Option Nat
  frozen : Bool
  deriving DecidableEq, Repr

/-- The Link Transmitter (R20 to R40). `recessiveBefore` is the recessive time that the last dominant level put an end to
(R24). `edgeUntold`: the recessive time counts from a transmit fault that found SDL recessive, and SDL had turned recessive before
(R24, R27, log 4). -/
structure Ltx where
  pend : PendingSet
  recallHeld : Bool
  attempt : Option Attempt
  intentSent : Bool
  recessive : Nat
  recessiveBefore : Nat
  edgeUntold : Bool
  announce : Option Nat
  isolation : Option Nat
  isolationInd : Bool
  rejoinGiven : Bool
  check : LineCheck
  capture : Capture
  deriving DecidableEq, Repr

/-- The last outcome (R96, R98): no outcome is NONE. -/
structure LastOutcome where
  outcome : Option IntentOutcome
  granted : Nat
  margin : Option MarginClass
  deriving DecidableEq, Repr

/-- The own claim context (R98). A timer holds its time remaining, or none when it is stopped. -/
structure OwnContext where
  attach : AttachState
  intentState : IntentState
  committed : Nat
  target : Nat
  minStep : Nat
  nextNumber : Nat
  current : Option IntentFields
  withdrawMark : Bool
  sentMark : Bool
  doubtMark : Bool
  confirmed : Bool
  hold : Option Nat
  resolution : Option SettleFields
  retry : Option Nat
  listen : Option Nat
  isolated : Bool
  lastOutcome : LastOutcome
  deriving DecidableEq, Repr

/-- A peer's presence (R52). -/
inductive Presence where
  | live
  | lost
  deriving DecidableEq, Repr

/-- A peer record (R52). No announced state is UNKNOWN. -/
structure Peer where
  id : Nat
  presence : Presence
  announced : Option AnnouncedState
  committed : Nat
  floor : Option Nat
  refreshed : Bool
  quiet : Nat
  profile : Option Nat
  digestMatch : Option Bool
  deriving DecidableEq, Repr

/-- Where an intent-list entry comes from (R74). -/
inductive Origin where
  | intent
  | learned
  deriving DecidableEq, Repr

/-- An intent-list entry (R74). -/
structure Entry where
  station : Nat
  number : Nat
  delta : Nat
  origin : Origin
  own : Bool
  deriving DecidableEq, Repr

/-- The last peer settlement (R78). -/
structure PeerSettlement where
  sender : Nat
  settle : SettleFields
  matched : Bool
  deriving DecidableEq, Repr

/-- CE's knowledge of the link: the peer table in ascending station ID (R52), the intent list head first (R74), the reference
station (R69), the duplicate timer (R65) and the last peer settlement (R78). -/
structure View where
  peers : List Peer
  intents : List Entry
  reference : Option Nat
  duplicate : Option Nat
  lastSettlement : Option PeerSettlement
  deriving DecidableEq, Repr

/-- The own context summary of the snapshot (R122). Times are in units of 0.25 µs. -/
structure OwnSummary where
  stationId : Nat
  context : OwnContext
  floor : Nat
  certain : Bool
  total : Nat
  pendingAhead : Option Nat
  reference : Option Nat
  duplicate : Option Nat
  deriving DecidableEq, Repr

/-- The snapshot buffer (R121) and its generation number. -/
structure Snapshot where
  own : Option OwnSummary
  peers : List Peer
  intents : List Entry
  settlement : Option PeerSettlement
  generation : Nat
  deriving DecidableEq, Repr

/-- The Profile Unit (R124 to R127). The settle timer and the age count up. -/
structure Pfu where
  table : Option (List Nat)
  settle : Option Nat
  profile : Nat
  age : Nat
  budget : Nat
  deriving DecidableEq, Repr

/-- The Shed Line Unit (R137 to R142). The filter time counts up, the recovery timer down. -/
structure Slu where
  hostShed : Bool
  driven : Bool
  observed : ShdObserved
  filter : Option Nat
  recovery : Option Nat
  deriving DecidableEq, Repr

/-- Output Control (R148 to R150). LIMREF presents the effective reference. -/
structure Oc where
  effRef : Nat
  gate : Bool
  deriving DecidableEq, Repr

/-- The Current Monitor (R151 to R161). The qualify count counts up, the timers count down. `reached`: the qualify count had
reached the qualify time when an edge began to blank the comparator, so the trip is still to be made (R157, log 30). -/
structure Cmon where
  trip : TripState
  hold : Option Nat
  holdEdge : Bool
  consecutive : Nat
  clean : Option Nat
  grace : Nat
  follow : Option Nat
  qualify : Nat
  armed : Bool
  reached : Bool
  blanking : Option Nat
  deriving DecidableEq, Repr

/-- The Alarm Unit (R164 to R166): bit k of a set stands for one kind (R183). -/
structure Au where
  flags : Word16
  notifyMask : Word16
  forceMask : Word16
  lineMask : Word16
  alert : Bool
  deriving DecidableEq, Repr

/-- The response codes (R174). -/
inductive RespCode where
  | done
  | accepted
  | refusedState
  | badValue
  | unknown
  deriving DecidableEq, Repr

/-- A response: its code, the request code it answers, and its data (R174). -/
structure Response where
  code : RespCode
  request : Byte
  data : List Byte
  deriving DecidableEq, Repr

/-- The configuration record (R176, R183). -/
structure ConfigRecord where
  stationId : Nat
  bitRate : Nat
  period : Nat
  hold : Nat
  floor : Nat
  ceiling : Nat
  budgets : List Nat
  tripMargin : Nat
  blanking : Nat
  qualify : Nat
  follow : Nat
  tripMode : Nat
  retryLimit : Nat
  notifyMask : Nat
  forceMask : Nat
  lineMask : Nat
  pattern : List Nat
  deriving DecidableEq, Repr

/-- The eight counters (R184). -/
structure Counters where
  good : Nat
  error : Nat
  lost : Nat
  mismatch : Nat
  lostArb : Nat
  txFault : Nat
  dropped : Nat
  trips : Nat
  deriving DecidableEq, Repr

/-- The Local Port (R173 to R186). A transaction in progress holds the copy of the slot that MISO shifts out. -/
structure Lport where
  slot : Response
  transaction : Option (List Byte)
  config : Option ConfigRecord
  digest : Option Nat
  counters : Counters
  deriving DecidableEq, Repr

/-- The notices of LTX (end of R30). -/
inductive LtxNotice where
  | sent (kind : FrameKind)
  | dropped (kind : FrameKind)
  | recalled
  | isolated
  | isolationEnd
  | rejoin
  | checkPassed
  | checkFailed
  deriving DecidableEq, Repr

/-- The notices of SLU (R141, R142). -/
inductive SluNotice where
  | shedStart
  | shedEnd
  deriving DecidableEq, Repr

/-- The notices of AU (R167, R169). -/
inductive AuNotice where
  | forceAlarm (kind : AlarmKind)
  | cleared
  deriving DecidableEq, Repr

/-- A profile change event: the new index and the new budget in effect (R127). -/
structure ProfileChange where
  index : Nat
  budget : Nat
  deriving DecidableEq, Repr

/-- The notices given to CE and not yet taken, one queue per giving unit, oldest first (log 8). -/
structure Notices where
  ltx : List LtxNotice
  slu : List SluNotice
  au : List AuNotice
  pfu : List ProfileChange
  deriving DecidableEq, Repr

/-- One SC412. `freeCount` and `pending` are the model's own: the counter applied to free values (log 23) and the queue of
commands waiting. -/
structure State where
  rst : ResetUnit
  pins : Pins
  lrx : Lrx
  rsq : Rsq
  ltx : Ltx
  own : OwnContext
  view : View
  snap : Snapshot
  pfu : Pfu
  slu : Slu
  oc : Oc
  cmon : Cmon
  au : Au
  lport : Lport
  notices : Notices
  freeCount : Nat
  pending : List Instr
  deriving DecidableEq, Repr

/-- Reasons to stop with a fault. None: the spec gives every command an effect or says that it changes nothing, and nothing
it describes stops the block. No step raises one, which is safe. -/
inductive Fault : Type
  deriving DecidableEq, Repr

/-- Reasons to refuse a command. -/
inductive Refusal where
  /-- The command has no meaning in the model. Raised by no arm of exec: every command has its meaning. Safe. -/
  | notModelled (mnemonic : String)
  deriving DecidableEq, Repr

/-! ### One setter per unit -/

namespace State

def setRst (s : State) (x : ResetUnit) : State := { s with rst := x }
def setPins (s : State) (x : Pins) : State := { s with pins := x }
def setLrx (s : State) (x : Lrx) : State := { s with lrx := x }
def setRsq (s : State) (x : Rsq) : State := { s with rsq := x }
def setLtx (s : State) (x : Ltx) : State := { s with ltx := x }
def setOwn (s : State) (x : OwnContext) : State := { s with own := x }
def setView (s : State) (x : View) : State := { s with view := x }
def setSnap (s : State) (x : Snapshot) : State := { s with snap := x }
def setPfu (s : State) (x : Pfu) : State := { s with pfu := x }
def setSlu (s : State) (x : Slu) : State := { s with slu := x }
def setOc (s : State) (x : Oc) : State := { s with oc := x }
def setCmon (s : State) (x : Cmon) : State := { s with cmon := x }
def setAu (s : State) (x : Au) : State := { s with au := x }
def setLport (s : State) (x : Lport) : State := { s with lport := x }
def setNotices (s : State) (x : Notices) : State := { s with notices := x }
def setFreeCount (s : State) (n : Nat) : State := { s with freeCount := n }
def setPending (s : State) (q : List Instr) : State := { s with pending := q }

end State

/-! ### The values after a full reset -/

/-- The pending set with no kind in it. -/
def PendingSet.empty : PendingSet := ⟨none, none, none, none, none⟩

/-- The input pins at power-on. DESIGN CHOICE, unsafe: they are driven from outside and a full reset leaves them (log 6). -/
def Pins.atReset : Pins := 
  { sdl := none, psel0 := false, psel1 := false, psel2 := false, shd := .recessive, sense := 0, pwme := false }

/-- R19. -/
def Lrx.atReset : Lrx := { state := .disabled, checkOnly := false, lineCount := none }

/-- R19. -/
def Rsq.atReset : Rsq := { records := [], pendingLoss := 0 }

/-- R40. -/
def LineCheck.atReset : LineCheck :=
  { run := none, owner := none, lastResult := none, failCounter := 0, repeatTimer := none }

/-- R38, R40: all slots absent, index none. -/
def Capture.empty : Capture := { slots := List.replicate 8 none, index := none, frozen := false }

/-- R40. No dominant level has ended a recessive time yet: `recessiveBefore` is 0 (log 4). -/
def Ltx.atReset : Ltx :=
  { pend := .empty, recallHeld := false, attempt := none, intentSent := false, recessive := 0,
    recessiveBefore := 0, edgeUntold := false, announce := none, isolation := none, isolationInd := false, rejoinGiven := false, check := .atReset, capture := .empty }

/-- R123, R97. The spec gives the last outcome NONE no granted amount and no margin class; 0 and absent are the model's choice
(log 33). -/
def OwnContext.atReset : OwnContext :=
  { attach := .detached, intentState := .idle, committed := 0, target := 0, minStep := 1, nextNumber := 0, current := none,
    withdrawMark := false, sentMark := false, doubtMark := false, confirmed := false, hold := none, resolution := none,
    retry := none, listen := none, isolated := false, lastOutcome := { outcome := none, granted := 0, margin := none } }

/-- R73, R97. -/
def View.atReset : View :=
  { peers := [], intents := [], reference := none, duplicate := none, lastSettlement := none }

/-- R121, R123. -/
def Snapshot.atReset : Snapshot := { own := none, peers := [], intents := [], settlement := none, generation := 0 }

/-- R136. The profile in effect takes the sampled index at the end of the reset (R127); while the reset lasts it shows the
sampled index of the pins (log 5). -/
def Pfu.atReset (profile : Nat) : Pfu := { table := none, settle := none, profile := profile, age := 0, budget := 0 }

/-- R147. -/
def Slu.atReset : Slu :=
  { hostShed := false, driven := false, observed := .released, filter := none, recovery := none }

/-- R163. -/
def Oc.atReset : Oc := { effRef := 0, gate := false }

/-- R163. -/
def Cmon.atReset : Cmon :=
  { trip := .clear, hold := none, holdEdge := false, consecutive := 0, clean := none, grace := 0, follow := none,
    qualify := 0, armed := true, reached := false, blanking := none }

/-- R165, R172: every flag clear, the default masks. All eleven kinds notify, DUPLICATE_ID forces, OVERDRAW_PERSISTENT
reaches the line. -/
def Au.atReset : Au :=
  { flags := 0, notifyMask := 0x07FF, forceMask := 0x0010, lineMask := 0x0004, alert := false }

/-- R184. -/
def Counters.zero : Counters :=
  { good := 0, error := 0, lost := 0, mismatch := 0, lostArb := 0, txFault := 0, dropped := 0, trips := 0 }

/-- R186: the slot shows UNKNOWN, request code 0x00 and no data. -/
def Lport.atReset : Lport :=
  { slot := { code := .unknown, request := 0, data := [] }, transaction := none, config := none, digest := none,
    counters := .zero }

/-- No notice given. -/
def Notices.none : Notices := { ltx := [], slu := [], au := [], pfu := [] }

/-- The station in a full reset (R173, and the full-reset columns of R19, R40, R73, R97, R123, R136, R147, R163, R172 and
R186), with the given pin levels, free-value counter and waiting commands. -/
def State.inFullReset (pins : Pins) (profile freeCount : Nat) (pending : List Instr) : State :=
  { rst := { held := true, blind := Option.none }
    pins := pins
    lrx := .atReset
    rsq := .atReset
    ltx := .atReset
    own := .atReset
    view := .atReset
    snap := .atReset
    pfu := .atReset profile
    slu := .atReset
    oc := .atReset
    cmon := .atReset
    au := .atReset
    lport := .atReset
    notices := .none
    freeCount := freeCount
    pending := pending }

/-- The station right after power-on reset has taken place: RESETN still low, every block at its full-reset values, nothing
waiting. END_OF_FULL_RESET ends the reset (log 5). -/
def State.reset : State := State.inFullReset .atReset 0 0 []

end Sys2Proof.Machine
end

