-- ==== Sys2Proof/Machine/Timing.lean ====
section
/-! DEFINITION. Times in units of 0.25 µs, the largest unit of which every stated time is a whole multiple (log 1), and the
times that the configured codes stand for. -/

namespace Sys2Proof.Machine

/-- One microsecond. -/
def usTicks : Nat := 4

/-- One millisecond. -/
def msTicks : Nat := 4000

/-- 0.1 ms, the unit in which the port reports timers (R183). -/
def tenthMsTicks : Nat := 400

/-- The bit time of a bit-rate code: 8, 4, 2 or 1 µs (R1). -/
def bitTicks (code : Nat) : Nat :=
  match code with
  | 0 => 8 * usTicks
  | 1 => 4 * usTicks
  | 2 => 2 * usTicks
  | _ => usTicks

/-- The announce period P of a period code in ms (R183). -/
def periodMs (code : Nat) : Nat :=
  match code with
  | 0 => 10
  | 1 => 20
  | 2 => 50
  | _ => 100

/-- The blanking time of a blanking code (R153). -/
def blankingTicks (code : Nat) : Nat :=
  match code with
  | 0 => 0
  | 1 => usTicks / 2
  | 2 => usTicks
  | _ => 2 * usTicks

/-- The qualify time of a qualify code (R154). -/
def qualifyTicks (code : Nat) : Nat :=
  match code with
  | 0 => 0
  | 1 => usTicks / 4
  | 2 => usTicks / 2
  | _ => usTicks

/-- The follow time of a follow code (R152). -/
def followTicks (code : Nat) : Nat :=
  match code with
  | 0 => 0
  | 1 => 100 * usTicks
  | 2 => 500 * usTicks
  | _ => 2 * msTicks

/-- The trip mode of its code (R156). -/
def tripModeOf (code : Nat) : TripMode :=
  match code with
  | 0 => .report
  | 1 => .latch
  | 2 => .retry20
  | 3 => .retry50
  | _ => .retryEdge

/-- The length of the hold that a trip begins in a RETRY mode (R156). -/
def holdTicks : TripMode → Nat
  | .retry20 => 20 * usTicks
  | .retry50 => 50 * usTicks
  | .retryEdge => 100 * usTicks
  | .report | .latch => 0

/-- The clean timer's 10 ms (R155, R158). -/
def cleanTicks : Nat := 10 * msTicks

/-- PSEL holds still for 1 ms before its index takes effect (R126). -/
def settleTicks : Nat := msTicks

/-- The 2 µs filter of SHD (R140). -/
def shdFilterTicks : Nat := 2 * usTicks

/-- The port ignores transactions for 100 µs after the rise of RESETN (R173). -/
def blindTicks : Nat := 100 * usTicks

/-- The age of the profile in effect saturates at 65535 ms (R127). -/
def ageMax : Nat := 65535 * msTicks

/-- A down-counting timer after one unit of time; it stays at 0 until its expiry is taken. -/
def countDown (t : Option Nat) : Option Nat := t.map (· - 1)

/-- An up-counting timer after one unit of time. -/
def countUp (t : Option Nat) : Option Nat := t.map (· + 1)

/-- An up-counting timer that has reached a limit. -/
def reached (t : Option Nat) (limit : Nat) : Bool :=
  match t with
  | none => false
  | some n => limit ≤ n

/-- A down-counting timer that is running and has no time left. -/
def expired (t : Option Nat) : Bool := t == some 0

/-! ### What the configuration record fixes

Every rule that reads one of these values reads it in a configured station, but for the recessive time of R24 (log 48). An
unconfigured station gives 0 (log 19). -/

namespace State

/-- "Configured" (R175): a configuration record has been accepted since the last full reset. -/
def configured (s : State) : Bool := s.lport.config.isSome

/-- A value read from the configuration record; 0 before the first accepted CONFIGURE (log 19). -/
def readConfig (s : State) (f : ConfigRecord → Nat) : Nat := (s.lport.config.map f).getD 0

/-- The own station ID. -/
def ownId (s : State) : Nat := s.readConfig (·.stationId)

/-- The configured floor. -/
def floor (s : State) : Nat := s.readConfig (·.floor)

/-- The configured ceiling. -/
def ceiling (s : State) : Nat := s.readConfig (·.ceiling)

/-- The announce period P. -/
def period (s : State) : Nat := s.readConfig (fun c => periodMs c.period * msTicks)

/-- The hold window H: 5n ms (R84). -/
def holdWindow (s : State) : Nat := s.readConfig (fun c => 5 * c.hold * msTicks)

/-- One slot: P/32 (00 section 3). -/
def slot (s : State) : Nat := s.period / 32

/-- One bit time (R1). Before the first accepted CONFIGURE none applies, and 0 is read where SDL falls idle (log 19, log 48). -/
def bitTime (s : State) : Nat := s.readConfig (fun c => bitTicks c.bitRate)

/-- The trip mode. -/
def tripMode (s : State) : TripMode := tripModeOf (s.readConfig (·.tripMode))

/-- The eight pattern words of the line check. -/
def pattern (s : State) : List Nat := (s.lport.config.map (·.pattern)).getD []

/-- The sampled index: PSEL0 + 2 × PSEL1 + 4 × PSEL2 (R126). -/
def sampledIndex (p : Pins) : Nat := p.psel0.toNat + 2 * p.psel1.toNat + 4 * p.psel2.toNat

end State

end Sys2Proof.Machine
end

