-- ==== Sys2Proof/Machine/Flags.lean ====
section
/-! DEFINITION. The flags: the eleven alarm flags with their masks and sets (R164 to R168), firing a cause, the presence of
a standing cause (R169), shed in effect (R143), and the packed flag bytes of the status record (R183). -/

namespace Sys2Proof.Machine

/-- The bit of an alarm kind in every set of kinds (R183). -/
def AlarmKind.bit : AlarmKind → Nat
  | .trip => 0
  | .tripLatched => 1
  | .overdrawPersistent => 2
  | .isolated => 3
  | .duplicateId => 4
  | .configMismatch => 5
  | .profileMismatch => 6
  | .framesLost => 7
  | .budgetDeficit => 8
  | .lineFault => 9
  | .shedSeen => 10

/-- The set that holds one kind. -/
def AlarmKind.set (k : AlarmKind) : Word16 := (1 : Word16) <<< k.bit

/-- Whether a set holds a kind. -/
def holdsKind (w : Word16) (k : AlarmKind) : Bool := w.getLsbD k.bit

namespace State

/-- The notify set: the flags that are set and whose notify bit is set (R165). -/
def notifySet (s : State) : Word16 := s.au.flags &&& s.au.notifyMask

/-- The force set (R148, R165). -/
def forceSet (s : State) : Word16 := s.au.flags &&& s.au.forceMask

/-- The line set (R139, R165). -/
def lineSet (s : State) : Word16 := s.au.flags &&& s.au.lineMask

/-- Shed in effect: SHD observed ASSERTED or the recovery timer running (R143). -/
def shedInEffect (s : State) : Bool := s.slu.observed == .asserted || s.slu.recovery.isSome

/-- A notice given to CE by the Alarm Unit. -/
def giveAu (s : State) (n : AuNotice) : State := s.setNotices { s.notices with au := s.notices.au ++ [n] }

/-- R164, R167: a cause fires. A clear flag becomes set, with a force-alarm notice if its force bit is set; a flag already
set is left as it is. -/
def fire (k : AlarmKind) (s : State) : State :=
  if holdsKind s.au.flags k then s
  else
    let t := s.setAu { s.au with flags := s.au.flags ||| k.set }
    if holdsKind s.au.forceMask k then t.giveAu (.forceAlarm k) else t

/-- R164, R169: the standing causes that are present, as a set of kinds. -/
def standingCauses (s : State) : Word16 :=
  (if s.cmon.trip = .latched then AlarmKind.tripLatched.set else 0) |||
  (if s.own.isolated then AlarmKind.isolated.set else 0) |||
  (if s.view.duplicate.isSome then AlarmKind.duplicateId.set else 0) |||
  (if s.slu.observed = .asserted then AlarmKind.shedSeen.set else 0)

end State

/-- A byte from its bits, bit 0 first. -/
def packBits (bs : List Bool) : Byte := BitVec.ofNat 8 (bs.foldr (fun b n => b.toNat + 2 * n) 0)

end Sys2Proof.Machine
end

