-- ==== Sys2Proof/Machine/Crc.lean ====
section
/-! DEFINITION. The CRC of the draw link and of the configuration digest (R10). -/

namespace Sys2Proof.Machine

/-- Steps 2 to 4 of R10 for one protected bit. -/
def crcBit (reg : Word16) (b : Bool) : Word16 :=
  if b ^^ reg.msb then (reg <<< 1) ^^^ 0x1021 else reg <<< 1

/-- The eight bits of a byte in sending order, least significant first (R2). -/
def bitsLsbFirst (b : Byte) : List Bool := (List.range 8).map b.getLsbD

/-- The CRC register after one protected byte. -/
def crcByte (reg : Word16) (b : Byte) : Word16 := (bitsLsbFirst b).foldl crcBit reg

/-- The CRC over a byte string: preset to all ones, not inverted. -/
def crc (bs : List Byte) : Word16 := bs.foldl crcByte 0xFFFF

end Sys2Proof.Machine
end

