-- ==== Sys2Proof/Machine/Operands.lean ====
section
/-! DEFINITION. Operand forms: the byte order of fields (00 section 3, R173), the fields of a received byte string, and the
request codes of R183. -/

namespace Sys2Proof.Machine

/-- One byte holding a number. -/
def u8 (n : Nat) : Byte := BitVec.ofNat 8 n

/-- A two-byte field, low byte first. -/
def u16 (n : Nat) : List Byte := [u8 n, u8 (n / 256)]

/-- A three-byte field, low byte first (R183: T and the pending ahead). -/
def u24 (n : Nat) : List Byte := [u8 n, u8 (n / 256), u8 (n / 65536)]

/-- A flag or mark takes one byte, 1 set and 0 clear (R183). -/
def uFlag (b : Bool) : Byte := if b then 1 else 0

/-- A one-byte field that may be absent: 0xFF when it is (R183). -/
def u8Opt (o : Option Nat) : Byte := (o.map u8).getD 0xFF

/-- A two-byte field that may be absent: 0xFFFF when it is (R183). -/
def u16Opt (o : Option Nat) : List Byte := u16 (o.getD 0xFFFF)

/-- A three-byte field that may be absent: 0xFFFFFF when it is (R183). -/
def u24Opt (o : Option Nat) : List Byte := u24 (o.getD 0xFFFFFF)

/-- The byte at an offset counted from 0; 0 where the string is shorter (MISO reads 0x00 past the end, R173). -/
def byteAt (bs : List Byte) (k : Nat) : Nat := (bs.getD k 0).toNat

/-- The two-byte field at an offset, low byte first. -/
def wordAt (bs : List Byte) (k : Nat) : Nat := byteAt bs k + 256 * byteAt bs (k + 1)

/-- Bits `lo` to `lo + len - 1` of a number, bit 0 the least significant. -/
def bitsOf (n lo len : Nat) : Nat := n / 2 ^ lo % 2 ^ len

/-- The bytes that the port collects after the request code: a transaction carries up to 64 bytes and the first is the code
(R173). -/
def portParams (params : List Byte) : List Byte := params.take 63

/-- The request codes (R183). -/
def codeNop : Byte := 0x00
def codeReadStatus : Byte := 0x01
def codeReadSnapshot : Byte := 0x02
def codeReadCapture : Byte := 0x03
def codeReadCounters : Byte := 0x04
def codeConfigure : Byte := 0x10
def codeJoin : Byte := 0x11
def codeLeave : Byte := 0x12
def codeSetTarget : Byte := 0x13
def codeReEnable : Byte := 0x14
def codeAssertShed : Byte := 0x15
def codeReleaseShed : Byte := 0x16
def codeClearAlarms : Byte := 0x17
def codeTakeSnapshot : Byte := 0x18
def codeLineCheck : Byte := 0x19
def codeStopCheck : Byte := 0x1A

/-- The codes that name a request (R174 test 1). -/
def requestCodes : List Byte :=
  [codeNop, codeReadStatus, codeReadSnapshot, codeReadCapture, codeReadCounters, codeConfigure, codeJoin, codeLeave,
   codeSetTarget, codeReEnable, codeAssertShed, codeReleaseShed, codeClearAlarms, codeTakeSnapshot, codeLineCheck,
   codeStopCheck]

/-- The request that a received code names (R183), with the bytes after the code; UNKNOWN_REQUEST where it names none (R174
test 1). -/
def requestNamed (code : Byte) (params : List Byte) : Instr :=
  if code = codeNop then .nop
  else if code = codeReadStatus then .readStatus
  else if code = codeReadSnapshot then .readSnapshot params
  else if code = codeReadCapture then .readCapture
  else if code = codeReadCounters then .readCounters params
  else if code = codeConfigure then .configure params
  else if code = codeJoin then .join
  else if code = codeLeave then .leave
  else if code = codeSetTarget then .setTarget params
  else if code = codeReEnable then .reEnable
  else if code = codeAssertShed then .assertShed
  else if code = codeReleaseShed then .releaseShed
  else if code = codeClearAlarms then .clearAlarms params
  else if code = codeTakeSnapshot then .takeSnapshot
  else if code = codeLineCheck then .lineCheck params
  else if code = codeStopCheck then .stopCheck
  else .unknownRequest code

/-- The command that the rising edge of CSN brings, by the whole bytes received on MOSI (R173, R183): the first is the request
code, the others are its parameters, and no more than 64 are taken. -/
def commandReceived (mosi : List Byte) : Instr :=
  match mosi with
  | [] => .transactionWithoutRequest
  | code :: params => requestNamed code (portParams params)

/-- The bits of a byte on the port, most significant bit first (R173). -/
def portBits (b : Byte) : List Bool := (List.range 8).map (fun k => b.toNat.testBit (7 - k))

/-- The byte of eight bits received on the port, most significant bit first (R173). -/
def portByte (bits : List Bool) : Byte := BitVec.ofNat 8 (bits.foldl (fun n b => 2 * n + b.toNat) 0)

/-- The whole bytes among the bits received on MOSI; bits that complete no byte are ignored (R173). -/
def wholeBytes : List Bool → List Byte
  | b0 :: b1 :: b2 :: b3 :: b4 :: b5 :: b6 :: b7 :: rest => portByte [b0, b1, b2, b3, b4, b5, b6, b7] :: wholeBytes rest
  | _ => []

/-- The command that the rising edge of CSN brings, by the bits sampled on MOSI at the rising edges of SCK (R173, log 42). -/
def commandOfBits (mosi : List Bool) : Instr := commandReceived (wholeBytes mosi)

/-- Whether a received code names a request (R174 test 1). -/
def namesRequest (code : Byte) : Bool := requestCodes.contains code

end Sys2Proof.Machine
end

