-- ==== Sys2Proof/Machine/Frames.lean ====
section
/-! DEFINITION. The claim frames: how LTX builds a frame (R23, R41 to R46) and how LRX classifies the bytes it has
assembled (R9, R11, R48, R49). -/

namespace Sys2Proof.Machine

/-! ### Codes -/

/-- The kind code in bits 0 to 3 of header byte 0 (R42). -/
def FrameKind.code : FrameKind → Nat
  | .announce => 0x1
  | .intent => 0x2
  | .check => 0x3
  | .leave => 0x4
  | .settle => 0x8

/-- The kind that a code names (R42); eleven codes name none. -/
def kindOfCode (c : Nat) : Option FrameKind :=
  match c with
  | 0x1 => some .announce
  | 0x2 => some .intent
  | 0x3 => some .check
  | 0x4 => some .leave
  | 0x8 => some .settle
  | _ => none

/-- Frame bytes of a kind, header and CRC included (R42). -/
def FrameKind.frameBytes : FrameKind → Nat
  | .announce => 16
  | .intent => 13
  | .check => 22
  | .leave => 6
  | .settle => 12

/-- All kinds except CHECK are numbered (R42). -/
def FrameKind.numbered : FrameKind → Bool
  | .check => false
  | .announce | .intent | .leave | .settle => true

/-- The attach-state code of an ANNOUNCE (R44). -/
def AnnouncedState.code : AnnouncedState → Nat
  | .listening => 0
  | .joining => 1
  | .member => 2

/-- The announced state of a code; code 3 is undefined (R44). -/
def announcedOfCode (c : Nat) : Option AnnouncedState :=
  match c with
  | 0 => some .listening
  | 1 => some .joining
  | 2 => some .member
  | _ => none

/-- The outcome code of a SETTLE (R46). -/
def IntentOutcome.code : IntentOutcome → Nat
  | .granted => 0
  | .refused => 1
  | .deferred => 2
  | .withdrawn => 3

/-- The outcome of a two-bit code (R46). -/
def outcomeOfCode (c : Nat) : IntentOutcome :=
  match c with
  | 0 => .granted
  | 1 => .refused
  | 2 => .deferred
  | _ => .withdrawn

/-- The margin-class code (R46). -/
def MarginClass.code : MarginClass → Nat
  | .negative => 0
  | .zero => 1
  | .positive => 2

/-- The margin class of a code; code 3 is undefined (R46). -/
def marginOfCode (c : Nat) : Option MarginClass :=
  match c with
  | 0 => some .negative
  | 1 => some .zero
  | 2 => some .positive
  | _ => none

/-! ### Building a frame -/

/-- The four header bytes (R23, R41): version 0, unused bits 0. -/
def header (kind : FrameKind) (stationId count : Nat) : List Byte := u8 kind.code :: u8 stationId :: u16 count

/-- The payload of an ANNOUNCE (R43, R44): with the flag clear, 0 in the intent number and increment. -/
def announcePayload (f : AnnounceFields) : List Byte :=
  u8 (f.attach.code + (if f.openIntent.isSome then 4 else 0) + 8 * f.profile) :: u16 f.committed ++ u16 f.floor ++
    u8 (f.openIntent.map Prod.fst |>.getD 0) :: u16 (f.openIntent.map Prod.snd |>.getD 0) ++ u16 f.digest

/-- The payload of an INTENT (R43, R45). -/
def intentPayload (f : IntentFields) : List Byte :=
  u8 f.number :: u16 f.delta ++ u16 f.deltaMin ++ u16 f.committedBefore

/-- The outcome byte: outcome + 16 × margin class, code 0 where the class is absent (R46). -/
def outcomeByte (f : SettleFields) : Byte := u8 (f.outcome.code + 16 * (f.margin.map MarginClass.code |>.getD 0))

/-- The payload of a SETTLE (R43, R46). -/
def settlePayload (f : SettleFields) : List Byte :=
  u8 f.number :: outcomeByte f :: u16 f.granted ++ u16 f.committedAfter

/-- The payload of a CHECK: the eight pattern words, each low byte first (R47). -/
def checkPayload (words : List Nat) : List Byte := words.flatMap u16

/-- A whole frame: header, payload, and the CRC over both, low byte first (R23, R41). -/
def buildFrame (kind : FrameKind) (stationId count : Nat) (payload : List Byte) : List Byte :=
  header kind stationId count ++ payload ++ u16 (crc (header kind stationId count ++ payload)).toNat

/-- The kind of a decoded frame. -/
def Decoded.kind : Decoded → FrameKind
  | .announce _ => .announce
  | .intent _ => .intent
  | .settle _ => .settle
  | .leave => .leave
  | .check => .check

/-! ### Classifying a frame -/

/-- Frame bytes are numbered from 1 (03 section 1). -/
def frameByte (bs : List Byte) (i : Nat) : Nat := byteAt bs (i - 1)

/-- The two-byte field whose low byte is frame byte i. -/
def frameWord (bs : List Byte) (i : Nat) : Nat := wordAt bs (i - 1)

/-- The kind that header byte 0 names, if any (R42). -/
def frameKind (bs : List Byte) : Option FrameKind := kindOfCode (bitsOf (frameByte bs 1) 0 4)

/-- The sender ID: bits 0 to 4 of header byte 1; bits 5 to 7 are disregarded (R41). -/
def frameSender (bs : List Byte) : Nat := bitsOf (frameByte bs 2) 0 5

/-- The line count field (R41). -/
def frameCount (bs : List Byte) : Nat := frameWord bs 3

/-- The two ANNOUNCE fields that the intent-open flag, bit 2 of the state byte, governs (R44, R49). -/
def announceOpen (bs : List Byte) : Option (Nat × Nat) :=
  if bitsOf (frameByte bs 5) 2 1 = 1 then some (frameByte bs 10, frameWord bs 11) else none

/-- Frame rules 5 to 8 and the decoded fields of an ANNOUNCE (R43, R48, R49). -/
def decodeAnnounce (bs : List Byte) : Option Decoded :=
  match announcedOfCode (bitsOf (frameByte bs 5) 0 2) with
  | none => none
  | some attach =>
    if frameWord bs 6 ≤ 4095 ∧ frameWord bs 8 ≤ 4095 ∧ frameWord bs 11 ≤ 4095 ∧
        (bitsOf (frameByte bs 5) 2 1 = 1 → 1 ≤ frameWord bs 11) then
      some (.announce
        { attach := attach, profile := bitsOf (frameByte bs 5) 3 3, committed := frameWord bs 6, floor := frameWord bs 8,
          digest := frameWord bs 13, openIntent := announceOpen bs })
    else none

/-- Frame rules 5 to 8 and the decoded fields of an INTENT (R43, R48, R49). -/
def decodeIntent (bs : List Byte) : Option Decoded :=
  if frameWord bs 6 ≤ 4095 ∧ frameWord bs 8 ≤ 4095 ∧ frameWord bs 10 ≤ 4095 ∧
      1 ≤ frameWord bs 6 ∧ 1 ≤ frameWord bs 8 ∧ frameWord bs 8 ≤ frameWord bs 6 then
    some (.intent
      { number := frameByte bs 5, delta := frameWord bs 6, deltaMin := frameWord bs 8, committedBefore := frameWord bs 10 })
  else none

/-- The margin class enters the record only with GRANTED and REFUSED (R49). -/
def keptMargin (o : IntentOutcome) (m : MarginClass) : Option MarginClass :=
  match o with
  | .granted | .refused => some m
  | .deferred | .withdrawn => none

/-- Frame rules 7 and 8 of a SETTLE with a defined margin class: GRANTED states ZERO or POSITIVE and a granted amount of at
least 1, any other outcome a granted amount of 0 (R48). -/
def settleRules (o : IntentOutcome) (m : MarginClass) (granted : Nat) : Bool :=
  match o with
  | .granted => m != .negative && 1 ≤ granted
  | .refused | .deferred | .withdrawn => granted == 0

/-- Frame rules 5 to 8 and the decoded fields of a SETTLE (R43, R48, R49). -/
def decodeSettle (bs : List Byte) : Option Decoded :=
  match marginOfCode (bitsOf (frameByte bs 6) 4 2) with
  | none => none
  | some m =>
    let o := outcomeOfCode (bitsOf (frameByte bs 6) 0 2)
    if frameWord bs 7 ≤ 4095 ∧ frameWord bs 9 ≤ 4095 ∧ settleRules o m (frameWord bs 7) = true then
      some (.settle
        { number := frameByte bs 5, outcome := o, margin := keptMargin o m, granted := frameWord bs 7,
          committedAfter := frameWord bs 9 })
    else none

/-- The fields of a frame of a known kind and length (R48 rules 5 to 8, R49). -/
def decodeFields (k : FrameKind) (bs : List Byte) : Option Decoded :=
  match k with
  | .announce => decodeAnnounce bs
  | .intent => decodeIntent bs
  | .settle => decodeSettle bs
  | .leave => some .leave
  | .check => some .check

/-- The frame rules of R48 over a frame whose CRC is right: none is FORMAT_ERROR. -/
def frameRules (bs : List Byte) : Option Decoded :=
  match frameKind bs with
  | none => none
  | some k =>
    if bitsOf (frameByte bs 1) 4 4 = 0 ∧ bs.length = k.frameBytes ∧ frameSender bs ≠ 0 then decodeFields k bs else none

/-- The received CRC, the last two bytes low byte first, equals the CRC over the bytes before them (R9, R10). -/
def crcRight (bs : List Byte) : Bool :=
  wordAt bs (bs.length - 2) == (crc (bs.take (bs.length - 2))).toNat

/-- How a frame is classified at its EOD (R9). A GOOD frame carries its decoded fields. -/
inductive Classified where
  | good (d : Decoded)
  | crcError
  | fragment
  | formatError
  deriving DecidableEq, Repr

/-- R9: the classification by the number of whole bytes, the CRC and the frame rules. -/
def classify (bs : List Byte) : Classified :=
  if bs.length < 4 then .fragment
  else if bs.length < 6 then .crcError
  else if crcRight bs then
    match frameRules bs with
    | some d => .good d
    | none => .formatError
  else .crcError

/-- Kind and sender ID of a record: present when 4 or more whole bytes were received (R11). -/
def recordOf (bs : List Byte) (own : Bool) (length : Nat) (content : Content) : FrameRecord :=
  if bs.length < 4 then { own := own, kind := none, sender := none, length := length, content := content }
  else { own := own, kind := frameKind bs, sender := some (frameSender bs), length := length, content := content }

/-- The content of the record of a classified frame, with the COUNT_MISMATCH flag of a GOOD one (R11). -/
def contentOf (c : Classified) (countMismatch : Bool) : Content :=
  match c with
  | .good d => .good countMismatch d
  | .crcError => .crcError
  | .fragment => .fragment
  | .formatError => .formatError

/-- R14: the line count after a GOOD numbered frame stating `stated`, and its COUNT_MISMATCH flag. -/
def countStep (c : Option Nat) (stated : Nat) : Nat × Bool :=
  match c with
  | none => (stated, false)
  | some c =>
    let expected := (c + 1) % 65536
    let d := (stated + 65536 - expected) % 65536
    if d = 0 then (stated, false) else if d ≤ 32767 then (stated, true) else (expected, true)

/-- The pattern words read back: word k stands in frame bytes 5 + 2k and 6 + 2k (R38, R43). -/
def readBackWords (bs : List Byte) : List Nat := (List.range 8).map (fun k => frameWord bs (5 + 2 * k))

end Sys2Proof.Machine
end

