-- ==== Sys2Proof/Machine/Ops.lean ====
section
/-! DEFINITION. The shared operations of the receive and transmit paths: counters, the Receive Status Queue, notices, the
transmit pending set and the requests to LTX. -/

namespace Sys2Proof.Machine

/-- A 16-bit counter that saturates at 65535 (R184). -/
def bump (n : Nat) : Nat := min 65535 (n + 1)

namespace State

/-- Replaces the counters of the Local Port. -/
def setCounters (s : State) (c : Counters) : State := s.setLport { s.lport with counters := c }

/-- A notice given to CE by LTX. -/
def giveLtx (s : State) (n : LtxNotice) : State := s.setNotices { s.notices with ltx := s.notices.ltx ++ [n] }

/-- A notice given to CE by SLU. -/
def giveSlu (s : State) (n : SluNotice) : State := s.setNotices { s.notices with slu := s.notices.slu ++ [n] }

/-- A profile change event given to CE by PFU. -/
def givePfu (s : State) (n : ProfileChange) : State := s.setNotices { s.notices with pfu := s.notices.pfu ++ [n] }

/-- Drops the oldest LTX notice: CE takes it. -/
def takeLtx (s : State) : State := s.setNotices { s.notices with ltx := s.notices.ltx.tail }

/-- Drops the oldest SLU notice: CE takes it. -/
def takeSlu (s : State) : State := s.setNotices { s.notices with slu := s.notices.slu.tail }

/-- Drops the oldest AU notice: CE takes it. -/
def takeAu (s : State) : State := s.setNotices { s.notices with au := s.notices.au.tail }

/-- Drops the oldest profile change event: CE takes it. -/
def takePfu (s : State) : State := s.setNotices { s.notices with pfu := s.notices.pfu.tail }

end State

/-! ### The Receive Status Queue -/

/-- The counters at the append of a frame record (R16). -/
def Counters.appended (c : Counters) (content : Content) : Counters :=
  match content with
  | .good true _ => { c with good := bump c.good, mismatch := bump c.mismatch }
  | .good false _ => { c with good := bump c.good }
  | .crcError | .symbolError | .tooLong | .fragment | .formatError => { c with error := bump c.error }

namespace State

/-- R16: a frame record enters the queue at the tail. -/
def appendRecord (s : State) (r : FrameRecord) : State :=
  (s.setRsq { s.rsq with records := s.rsq.records ++ [.frame r] }).setCounters (s.lport.counters.appended r.content)

/-- R17: an overrun discards the record, counts the loss and fires FRAMES_LOST. -/
def overrun (s : State) : State :=
  fire .framesLost
    ((s.setRsq { s.rsq with pendingLoss := min 255 (s.rsq.pendingLoss + 1) }).setCounters
      { s.lport.counters with lost := bump s.lport.counters.lost })

/-- A record is handed to the queue of 8 slots (R16, R17). In check-only mode LRX appends no record, increments no counter
and raises no cause (R13). -/
def handRecord (s : State) (r : FrameRecord) : State :=
  if s.lrx.checkOnly then s
  else if s.rsq.records.length < 8 then s.appendRecord r
  else s.overrun

end State

/-- R18: CE removes the head; losses pending are placed at once, merged into a tail LOSS record or as a new one. -/
def Rsq.removeHead (q : Rsq) : Rsq :=
  match q.records with
  | [] => q
  | _ :: rest =>
    if q.pendingLoss = 0 then { q with records := rest }
    else
      match rest.getLast? with
      | some (.loss n) => { records := rest.dropLast ++ [.loss (min 255 (n + q.pendingLoss))], pendingLoss := 0 }
      | some (.frame _) | none => { records := rest ++ [.loss q.pendingLoss], pendingLoss := 0 }

/-! ### The transmit pending set -/

namespace PendingSet

/-- The stay of a kind in the set. -/
def get (p : PendingSet) : FrameKind → Option PendEntry
  | .settle => p.settle
  | .leave => p.leave
  | .intent => p.intent
  | .announce => p.announce
  | .check => p.check

/-- Replaces the stay of a kind. -/
def put (p : PendingSet) (k : FrameKind) (e : Option PendEntry) : PendingSet :=
  match k with
  | .settle => { p with settle := e }
  | .leave => { p with leave := e }
  | .intent => { p with intent := e }
  | .announce => { p with announce := e }
  | .check => { p with check := e }

/-- A kind newly added: both counts 0, no renewal (R20). -/
def fresh : PendEntry := { lost := 0, fault := 0, renewal := false }

/-- The candidate: the kind of highest priority in the set (R22). -/
def candidate (p : PendingSet) : Option FrameKind :=
  if p.settle.isSome then some .settle
  else if p.leave.isSome then some .leave
  else if p.intent.isSome then some .intent
  else if p.announce.isSome then some .announce
  else if p.check.isSome then some .check
  else none

end PendingSet

/-- The access gap of a kind in bit times (R22). -/
def FrameKind.gapBits : FrameKind → Nat
  | .settle | .leave => 12
  | .intent | .announce | .check => 24

namespace State

/-- Replaces the pending set. -/
def setPend (s : State) (p : PendingSet) : State := s.setLtx { s.ltx with pend := p }

/-- "Line check running" (R175): LTX holds a run. -/
def lineCheckRunning (s : State) : Bool := s.ltx.check.run.isSome

/-- An attempt of a kind is in flight. -/
def inFlight (s : State) (k : FrameKind) : Bool := s.ltx.attempt.any (fun a => a.kind == k)

/-- Which requests LTX takes, by the attach state (R20). -/
def requestTaken (s : State) (k : FrameKind) : Bool :=
  match s.own.attach, k with
  | .detached, .check => s.lineCheckRunning
  | .detached, .settle | .detached, .leave | .detached, .intent | .detached, .announce => false
  | .leaving, .leave => true
  | .leaving, .settle | .leaving, .intent | .leaving, .announce | .leaving, .check => false
  | .listening, .check | .joining, .check | .member, .check => false
  | .listening, _ | .joining, _ | .member, _ => true

/-- R20: a request names a kind. It adds the kind, or leaves it in the set once and notes a renewal when an attempt of that
kind is in flight. An ignored request changes nothing. -/
def request (s : State) (k : FrameKind) : State :=
  if s.requestTaken k then
    match s.ltx.pend.get k with
    | none => s.setPend (s.ltx.pend.put k (some PendingSet.fresh))
    | some e => if s.inFlight k then s.setPend (s.ltx.pend.put k (some { e with renewal := true })) else s
  else s

/-- CE's request for INTENT (R108): LTX no longer counts earlier INTENT attempts as made for it (R120). -/
def requestIntent (s : State) : State :=
  (s.setLtx { s.ltx with intentSent := false, attempt := s.ltx.attempt.map (fun a => { a with beforeRequest := true }) }).request
    .intent

/-- R30: CE asks LTX to recall INTENT. An attempt in flight holds the recall; otherwise INTENT leaves the set with a RECALLED
notice; with neither, nothing happens. -/
def recallIntent (s : State) : State :=
  if s.inFlight .intent then s.setLtx { s.ltx with recallHeld := true }
  else if s.ltx.pend.intent.isSome then (s.setPend (s.ltx.pend.put .intent none)).giveLtx .recalled
  else s

/-- R21, clear for LEAVE: the set is emptied, a held recall is cancelled, the announce and isolation timers stop, and LEAVE
is added. -/
def clearForLeave (s : State) : State :=
  s.setLtx { s.ltx with
    pend := PendingSet.empty.put .leave (some PendingSet.fresh), recallHeld := false, announce := none, isolation := none }

/-- R21, remove INTENT, and R31, R33, R34 at a rejoin: the announce timer restarts with P, the isolation timer from zero with
its indication clear. -/
def rejoinLtx (s : State) : State :=
  s.setLtx { s.ltx with
    pend := s.ltx.pend.put .intent none, recallHeld := false, announce := some s.period, isolation := some 0,
    isolationInd := false, rejoinGiven := false }

/-! ### The level on SDL -/

/-- Replaces the receive state. -/
def setLrxState (s : State) (x : LrxState) : State := s.setLrx { s.lrx with state := x }

/-- R3: SDL can have been recessive for 2 bit times. While it is held dominant, the last dominant level has begun at least that
long ago, and LINE_IDLE itself reports its end; so it does after a transmit fault, before which SDL turned recessive (log 4). -/
def lineIdle (s : State) : Bool :=
  match s.pins.sdl with
  | none => s.ltx.edgeUntold || 2 * s.bitTime ≤ s.ltx.recessive
  | some t => 2 * s.bitTime ≤ t

/-- LRX waits for idle: in DISCARD (R8), and in HUNT before idle has been seen or after a dominant level that may have been a
glitch (R5). -/
def awaitsIdle (s : State) : Bool :=
  match s.lrx.state with
  | .discard | .hunt false | .starting _ => true
  | .disabled | .hunt true | .receiving _ => false

/-- LINE_IDLE comes about now, told or not: LRX waits for idle, and SDL is recessive and has been for 2 bit times at least (R3,
R5, R8). -/
def lineIdleDue (s : State) : Bool := s.pins.sdl.isNone && 2 * s.bitTime ≤ s.ltx.recessive && s.awaitsIdle

/-- An idle that has come about is seen before the dominant level that ends it (R3, R5, R35, log 39). -/
def seesIdle (s : State) : State := if s.lineIdleDue then s.setLrxState (.hunt true) else s

/-- SDL has been recessive for two cells and no longer (R3). Before the first accepted CONFIGURE no bit time applies (R1), and it
reads 0: the recessive time then counts from LINE_IDLE itself (DESIGN CHOICE, safe: log 48). -/
def sdlTwoCellsRecessive (s : State) : State :=
  (s.setPins { s.pins with sdl := none }).setLtx { s.ltx with recessive := 2 * s.bitTime, edgeUntold := false }

/-- SDL has been recessive for two cells (R3): a level held dominant ended then, and so did the one before a transmit fault; a line
known to have been recessive for so long stays as it is. -/
def sdlIdle (s : State) : State :=
  if s.pins.sdl.isSome || s.ltx.recessive < 2 * s.bitTime then s.sdlTwoCellsRecessive else s

/-- A frame start of which no dominant level was told: SDL has turned dominant two bit times ago at the latest (R3, R24, log
4). -/
def sdlStarted (s : State) : State :=
  if s.pins.sdl.isNone then (s.setPins { s.pins with sdl := some (2 * s.bitTime) }).setLtx { s.ltx with recessive := 0, edgeUntold := false }
  else s

/-- R5: a dominant level of this age may open a frame. It has lasted a quarter of a bit time or more. A start shows its shape
within 2 bit times, so that a start recognised a quarter of a bit time after that began with a later level (log 4). -/
def mayOpen (s : State) (age : Nat) : Bool := s.bitTime ≤ 4 * age && 4 * age < 9 * s.bitTime

/-- R5: the receive state when a dominant level begins. In HUNT with idle seen it may open a frame. Of a start it is a further
part, unless the level before it was a glitch: then idle has not been seen again. -/
def lrxAtDominant (s : State) : LrxState :=
  match s.lrx.state with
  | .hunt true => .starting 0
  | .starting age => if s.mayOpen age then .starting age else .hunt false
  | .hunt false => .hunt false
  | .disabled => .disabled
  | .receiving bs => .receiving bs
  | .discard => .discard

/-- R5, R24: a dominant level begins on SDL. It puts an end to the recessive time. -/
def sdlTurnsDominant (s : State) : State :=
  ((s.setLrxState s.lrxAtDominant).setPins { s.pins with sdl := some 0 }).setLtx
    { s.ltx with recessive := 0, recessiveBefore := s.ltx.recessive, edgeUntold := false }

/-- R24, R25: SDL reads dominant in the middle of an attempt. -/
def sdlReadsDominant (s : State) : State :=
  (s.setPins { s.pins with sdl := some 0 }).setLtx { s.ltx with recessive := 0, recessiveBefore := 0, edgeUntold := false }

/-- R24, R27: SDL reads recessive where the station drives it dominant. A level held dominant ended before this moment, by how
much is told by LINE_IDLE (log 4). -/
def sdlReadsRecessive (s : State) : State :=
  (s.setPins { s.pins with sdl := none }).setLtx { s.ltx with edgeUntold := s.ltx.edgeUntold || s.pins.sdl.isSome }

/-! ### The line check -/

/-- LRX enters DISABLED: a frame being assembled is abandoned (R4). -/
def disableLrx (s : State) : State := s.setLrx { s.lrx with state := .disabled, checkOnly := false }

/-- R35: the start of a run. -/
def beginRun (s : State) (mode : CheckMode) (owner : CheckOwner) : State :=
  ((s.setLtx { s.ltx with
      check := { run := some { mode := mode, phase := .sending }, owner := some owner, lastResult := none, failCounter := 0,
                 repeatTimer := none },
      capture := .empty }).setLrx { s.lrx with state := .hunt false, checkOnly := true }).request .check

/-- R37: a run ends. LTX returns to IDLE with an empty set, LRX to DISABLED. -/
def endRun (s : State) : State :=
  (s.setLtx { s.ltx with pend := .empty, check := { s.ltx.check with run := none, repeatTimer := none } }).disableLrx

/-- R13, R39: the JOIN run has passed. CHECK leaves the set, LRX leaves check-only mode at once, and CE is told. The run is
held until CE takes the notice (log 9). -/
def endJoinRun (s : State) : State :=
  ((s.setPend (s.ltx.pend.put .check none)).setLrx { s.lrx with checkOnly := false }).giveLtx .checkPassed

/-- R37: the repeat timer starts with P. -/
def waitRun (s : State) (r : CheckRun) : State :=
  s.setLtx { s.ltx with
    pend := s.ltx.pend.put .check none,
    check := { s.ltx.check with run := some { r with phase := .waiting }, repeatTimer := some s.period } }

end State

/-- R37: whether a run goes on after a check of its mode that passed or failed. -/
def CheckMode.goesOn (m : CheckMode) (passed : Bool) : Bool :=
  match m with
  | .single => false
  | .untilFail => passed
  | .continuous => true

namespace State

/-- What follows a check that passed or failed (R37, R39): the run waits, ends, or tells CE. -/
def afterCheck (s : State) (passed : Bool) : State :=
  match s.ltx.check.run with
  | none => s.setPend (s.ltx.pend.put .check none)
  | some r =>
    if s.ltx.check.owner = some .join then (if passed then s.endJoinRun else s.endRun.giveLtx .checkFailed)
    else if r.phase = .stopping then s.endRun
    else if r.mode.goesOn passed then s.waitRun r
    else s.endRun

end State

/-- R38: the first-mismatch index, the lowest slot that is absent or differs from its pattern word. -/
def firstMismatch (slots : List (Option Nat)) (pattern : List Nat) : Option Nat :=
  (List.range 8).find? (fun k => (slots.getD k none) != some (pattern.getD k 0))

/-- R38: a failure sets the index and freezes the memory for the rest of the run. -/
def Capture.freeze (c : Capture) (pattern : List Nat) : Capture :=
  if c.frozen then c else { c with index := firstMismatch c.slots pattern, frozen := true }

/-- R38: a CHECK attempt begins with all slots absent, unless a failure of this run is held. -/
def Capture.restart (c : Capture) : Capture := if c.frozen then c else .empty

/-- R38: when the second byte of word k has been received (frame byte 6 + 2k), slot k takes the word. -/
def Capture.byteRead (c : Capture) (bs : List Byte) : Capture :=
  if c.frozen then c
  else if 6 ≤ bs.length ∧ bs.length ≤ 20 ∧ bs.length % 2 = 0 then
    { c with slots := c.slots.set ((bs.length - 6) / 2) (some (frameWord bs (bs.length - 1))) }
  else c

namespace State

/-- R36: the check passes. -/
def checkPasses (s : State) : State :=
  (s.setLtx { s.ltx with check := { s.ltx.check with lastResult := some .passed } }).afterCheck true

/-- R36: the check fails: fail counter, FAILED, LINE_FAULT once, capture frozen. -/
def checkFails (s : State) : State :=
  (fire .lineFault
    (s.setLtx { s.ltx with
      check := { s.ltx.check with lastResult := some .failed, failCounter := min 255 (s.ltx.check.failCounter + 1) },
      capture := s.ltx.capture.freeze s.pattern })).afterCheck false

/-! ### The end of an attempt -/

/-- R28 step 4, R33, R34: a SENT restarts the isolation timer if it runs; with the indication set it also clears it and gives
ISOLATION_END. -/
def sentRestartsIsolation (s : State) : State :=
  if s.ltx.isolation.isSome then
    let t := s.setLtx { s.ltx with isolation := some 0, isolationInd := false, rejoinGiven := false }
    if s.ltx.isolationInd then t.giveLtx .isolationEnd else t
  else s

/-- R28 steps 1 and 2: the kind leaves the set; a renewal adds it again. -/
def sentLeavesSet (s : State) (k : FrameKind) : State :=
  match s.ltx.pend.get k with
  | none => s
  | some e => s.setPend (s.ltx.pend.put k (if e.renewal then some PendingSet.fresh else none))

/-- R30, R120: what a SENT of INTENT settles in LTX: a held recall, and that the intent is open on the line. -/
def sentSettlesIntent (s : State) (a : Attempt) : State :=
  if a.kind = .intent then s.setLtx { s.ltx with recallHeld := false, intentSent := !a.beforeRequest } else s

/-- R28, R36: the attempt in flight, if any, ends SENT. `checkGood`: LRX classified the frame GOOD and all eight words read
back equal the pattern. -/
def attemptSent (s : State) (checkGood : Bool) : State :=
  match s.ltx.attempt with
  | none => s
  | some a =>
    let t := s.setLtx { s.ltx with attempt := none }
    if a.kind = .check then (if checkGood then t.checkPasses else t.checkFails)
    else (((t.sentSettlesIntent a).sentLeavesSet a.kind).giveLtx (.sent a.kind)).sentRestartsIsolation

/-- R29: the kind is dropped. -/
def dropKind (s : State) (k : FrameKind) : State :=
  ((s.setPend (s.ltx.pend.put k none)).setCounters
    { s.lport.counters with dropped := bump s.lport.counters.dropped }).giveLtx (.dropped k)

/-- R30: a held recall is settled by the end of the attempt: INTENT leaves the set with a RECALLED notice, and no drop
occurs. -/
def settleRecall (s : State) : State :=
  (s.setLtx { s.ltx with pend := s.ltx.pend.put .intent none, recallHeld := false }).giveLtx .recalled

/-- The end of an attempt of kind k that lost arbitration or met a fault, with the raised counts of the kind (R25, R27, R29,
R30). A kind no longer in the set is neither counted nor dropped (R21, R29). -/
def attemptFailed (s : State) (k : FrameKind) (raise : PendEntry → PendEntry) : State :=
  match s.ltx.pend.get k with
  | none => if k = .intent ∧ s.ltx.recallHeld = true then s.setLtx { s.ltx with recallHeld := false } else s
  | some e =>
    if k = .intent ∧ s.ltx.recallHeld = true then s.settleRecall
    else if k ≠ .check ∧ ((raise e).lost ≥ 16 ∨ (raise e).fault ≥ 4) then s.dropKind k
    else s.setPend (s.ltx.pend.put k (some (raise e)))

end State

/-- R20, R25: the lost-arbitration count of a kind, 0 to 16. -/
def PendEntry.raiseLost (e : PendEntry) : PendEntry := { e with lost := min 16 (e.lost + 1) }

/-- R20, R27: the fault count of a kind, 0 to 4. -/
def PendEntry.raiseFault (e : PendEntry) : PendEntry := { e with fault := min 4 (e.fault + 1) }

end Sys2Proof.Machine
end

