-- ==== Sys2Proof/Machine/View.lean ====
section
/-! DEFINITION. What the Claim Engine knows of its peers: the peer table (R52 to R73) and the intent list (R74 to R81), and
the values computed from them when they are read. -/

namespace Sys2Proof.Machine

/-! ### The peer table -/

/-- The record of a station ID, if any. -/
def findPeer (x : Nat) (ps : List Peer) : Option Peer := ps.find? (fun p => p.id == x)

/-- Puts a record in its place in ascending station ID, replacing the one of the same ID (R52). -/
def putPeer (p : Peer) : List Peer → List Peer
  | [] => [p]
  | q :: qs =>
    if p.id < q.id then p :: q :: qs
    else if p.id = q.id then p :: qs
    else q :: putPeer p qs

/-- Removes the record of a station ID. -/
def removePeer (x : Nat) (ps : List Peer) : List Peer := ps.filter (fun p => p.id != x)

/-- A LIVE record. -/
def Peer.isLive (p : Peer) : Bool := p.presence == .live

/-- R55: a record created for X. Its committed claim comes from the frame that created it. -/
def newPeer (x : Nat) : Peer :=
  { id := x, presence := .live, announced := none, committed := 0, floor := none, refreshed := false, quiet := 0,
    profile := none, digestMatch := none }

/-- Steps 2 and 3 of R54 for a kind other than LEAVE: create or revive the record, quiet time 0 (R55, R59). -/
def heardPeer (x : Nat) (ps : List Peer) : Peer :=
  match findPeer x ps with
  | none => newPeer x
  | some p => { p with presence := .live, quiet := 0 }

/-- R63: clears the refreshed flag of every LIVE record. -/
def unrefreshPeers (ps : List Peer) : List Peer := ps.map (fun p => if p.isLive then { p with refreshed := false } else p)

/-- The claim counted for a peer in the view total (R70). -/
def Peer.counted (p : Peer) : Nat :=
  match p.presence, p.floor with
  | .live, _ => p.committed
  | .lost, none => p.committed
  | .lost, some f => min p.committed f

/-- The claim counted for a peer in the floor sum (R71). -/
def Peer.floorCounted (p : Peer) : Nat :=
  match p.presence with
  | .live => p.floor.getD p.committed
  | .lost => p.counted

/-- R69: the LIVE record of lowest station ID below the own ID; the table is in ascending order. -/
def referenceOf (ownId : Nat) (ps : List Peer) : Option Nat :=
  (ps.find? (fun p => p.isLive && p.id < ownId)).map (·.id)

/-! ### The intent list -/

/-- The entry of a station, if any (R74: at most one). -/
def findEntry (x : Nat) (es : List Entry) : Option Entry := es.find? (fun e => e.station == x)

/-- Removes the entry of a station, wherever it stands. -/
def removeEntry (x : Nat) (es : List Entry) : List Entry := es.filter (fun e => e.station != x)

/-- Removes the own entry. -/
def removeOwnEntry (es : List Entry) : List Entry := es.filter (fun e => !e.own)

/-- A peer's entry (R76, R79). -/
def peerEntry (x number delta : Nat) (origin : Origin) : Entry :=
  { station := x, number := number, delta := delta, origin := origin, own := false }

/-- R75: the sum of the increments before the own entry; none while the own entry is absent. -/
def pendingAhead (es : List Entry) : Option Nat :=
  if es.any (·.own) then some ((es.takeWhile (fun e => !e.own)).map (·.delta)).sum else none

/-- R87: an entry of origin LEARNED stands behind the own entry. -/
def learnedBehind (es : List Entry) : Bool :=
  ((es.dropWhile (fun e => !e.own)).drop 1).any (fun e => e.origin == .learned)

/-- R79: a peer's ANNOUNCE reconciles the peer's entry. -/
def reconcile (x : Nat) (openIntent : Option (Nat × Nat)) (es : List Entry) : List Entry :=
  match openIntent with
  | none => removeEntry x es
  | some (n, d) =>
    match findEntry x es with
    | none => es ++ [peerEntry x n d .learned]
    | some e => if e.number = n then es else removeEntry x es ++ [peerEntry x n d .learned]

/-- R77: whether a SETTLE with this number finds an entry of its sender. -/
def settleMatches (x number : Nat) (es : List Entry) : Bool :=
  match findEntry x es with
  | none => false
  | some e => e.number == number

namespace State

/-- Replaces the peer table. -/
def setPeers (s : State) (ps : List Peer) : State := s.setView { s.view with peers := ps }

/-- Replaces the intent list. -/
def setIntents (s : State) (es : List Entry) : State := s.setView { s.view with intents := es }

/-- R63: the unrefresh. -/
def unrefresh (s : State) : State := s.setPeers (unrefreshPeers s.view.peers)

/-- R54 step 1: the unrefresh of a record that carries COUNT_MISMATCH. -/
def unrefreshIf (s : State) (countMismatch : Bool) : State := if countMismatch then s.unrefresh else s

/-- R69: CE recomputes the reference station and publishes it to LTX. -/
def recomputeReference (s : State) : State :=
  s.setView { s.view with reference := referenceOf s.ownId s.view.peers }

/-- R64: the view is certain. -/
def certain (s : State) : Bool :=
  s.own.attach != .listening && s.view.peers.all (fun p => !p.isLive || p.refreshed) &&
    !holdsKind s.au.flags .duplicateId

/-- R70: the view total T. -/
def viewTotal (s : State) : Nat := s.own.committed + (s.view.peers.map Peer.counted).sum

/-- R71: the floor sum F. -/
def floorSum (s : State) : Nat := s.floor + (s.view.peers.map Peer.floorCounted).sum

/-- At least one LIVE peer record exists (R85, R87). -/
def anyLive (s : State) : Bool := s.view.peers.any Peer.isLive

end State

end Sys2Proof.Machine
end

