-- ==== Sys2Proof/Machine/Claim.lean ====
section
/-! DEFINITION. The station's own claim: opening, withdrawing, deciding and resolving an intent (R82 to R92, R107 to R117),
the decrease, leaving and rejoining (R104 to R106). -/

namespace Sys2Proof.Machine

namespace State

/-- CE is attached and not leaving (R101, R112, R118). -/
def attached (s : State) : Bool :=
  match s.own.attach with
  | .listening | .joining | .member => true
  | .detached | .leaving => false

/-! ### Opening -/

/-- The target condition of R107: target above committed in MEMBER, met by the attach state itself in JOINING (R103). -/
def wantsMore (s : State) : Bool :=
  match s.own.attach with
  | .joining => true
  | .member => s.own.committed < s.own.target
  | .detached | .listening | .leaving => false

/-- The opening conditions (R107). -/
def openingHolds (s : State) : Bool :=
  s.own.intentState == .idle && s.wantsMore && s.certain && !s.shedInEffect && !s.own.isolated && s.forceSet == 0

/-- The fields of the intent to be opened (R103, R108). -/
def intentToOpen (s : State) : IntentFields :=
  match s.own.attach with
  | .joining => { number := s.own.nextNumber, delta := s.floor, deltaMin := s.floor, committedBefore := 0 }
  | .detached | .listening | .member | .leaving =>
    { number := s.own.nextNumber, delta := s.own.target - s.own.committed,
      deltaMin := min s.own.minStep (s.own.target - s.own.committed), committedBefore := s.own.committed }

/-- R108: an intent is opened. -/
def openIntent (s : State) : State :=
  (s.setOwn { s.own with
    current := some s.intentToOpen, nextNumber := (s.own.nextNumber + 1) % 256, withdrawMark := false, sentMark := false,
    doubtMark := false, confirmed := false, intentState := .opening }).requestIntent

/-- R107: the test at the end of every event CE takes. -/
def openingTest (s : State) : State := if s.openingHolds then s.openIntent else s

/-! ### Resolution -/

/-- The current intent; zeros where there is none, which no rule reads (log 19). -/
def currentIntent (s : State) : IntentFields :=
  s.own.current.getD { number := 0, delta := 0, deltaMin := 0, committedBefore := 0 }

/-- The resolution that R92 step 4 holds. -/
def resolutionOf (s : State) (outcome : IntentOutcome) (granted : Nat) (margin : Option MarginClass) : SettleFields :=
  { number := s.currentIntent.number, outcome := outcome, margin := margin, granted := granted,
    committedAfter := s.own.committed + granted }

/-- R92: every resolution, as one event. It also clears the withdraw mark (R115). -/
def resolve (s : State) (outcome : IntentOutcome) (granted : Nat) (margin : Option MarginClass) : State :=
  ((s.setIntents (removeOwnEntry s.view.intents)).setOwn { s.own with
    hold := none, confirmed := false, sentMark := false, doubtMark := false, withdrawMark := false,
    committed := s.own.committed + granted,
    resolution := some (s.resolutionOf outcome granted margin),
    lastOutcome := { outcome := some outcome, granted := granted, margin := margin },
    intentState := .settling }).request .settle

/-- R91: the WITHDRAWN resolution. -/
def resolveWithdrawn (s : State) : State := s.resolve .withdrawn 0 none

/-- R114: a withdrawal cause other than LEAVE and REJOIN. -/
def withdrawalCause (s : State) : State :=
  match s.own.intentState with
  | .idle | .retryWait | .settling => s
  | .opening => if s.own.withdrawMark then s else (s.setOwn { s.own with withdrawMark := true }).recallIntent
  | .window => s.resolveWithdrawn

/-- R116: the decrease to the larger of target and floor, announced if the claim has fallen. -/
def decrease (s : State) : State :=
  let new := max s.own.target s.floor
  let t := s.setOwn { s.own with committed := new }
  if new < s.own.committed then t.request .announce else t

/-! ### The decision -/

/-- R88: the headroom h = B − T − A. -/
def headroom (s : State) : Int :=
  (s.pfu.budget : Int) - (s.viewTotal : Int) - (((pendingAhead s.view.intents).getD 0 : Nat) : Int)

/-- R87 condition 1. It reads the isolated flag as it stands: an ISOLATED notice that waits for CE has not set it yet (R118), and the
intent is then decided without it, although R87 and R114 say that the result is the same in either order (DESIGN CHOICE, unsafe:
log 50). -/
def decidesWithdrawn (s : State) : Bool := s.shedInEffect || s.own.isolated || s.forceSet != 0

/-- R87 condition 2. -/
def decidesDeferred (s : State) : Bool :=
  !s.certain || (!s.own.confirmed && s.anyLive) || learnedBehind s.view.intents

/-- R90: the granted amount, the smaller of Δ and h. -/
def grantOf (s : State) : Nat := min s.currentIntent.delta s.headroom.toNat

end State

/-- R89: the sign class of the headroom of a refusal. -/
def refusalMargin (h : Int) : MarginClass := if h < 0 then .negative else if h = 0 then .zero else .positive

/-- R90: the class of what a grant leaves. -/
def grantMargin (left : Int) : MarginClass := if left = 0 then .zero else .positive

namespace State

/-- R103: the grant of the join intent makes the station a MEMBER in the same event. -/
def becomeMember (s : State) : State :=
  if s.own.attach = .joining then s.setOwn { s.own with attach := .member } else s

/-- R117: a grant that leaves committed above the target is followed by the decrease in the same event. Its ANNOUNCE is
requested if the claim has fallen, as R116 says of every decrease (DEDUCED, safe: log 38). -/
def settleToTarget (s : State) : State := if s.own.target < s.own.committed then s.decrease else s

/-- R90, R92, R103, R117: the GRANTED resolution. -/
def resolveGranted (s : State) : State :=
  ((s.resolve .granted s.grantOf (some (grantMargin (s.headroom - (s.grantOf : Int))))).becomeMember).settleToTarget

/-- R87 to R92: the decision at the expiry of the hold timer. -/
def decideIntent (s : State) : State :=
  if s.decidesWithdrawn then s.resolveWithdrawn
  else if s.decidesDeferred then s.resolve .deferred 0 none
  else if s.headroom < (s.currentIntent.deltaMin : Int) then s.resolve .refused 0 (some (refusalMargin s.headroom))
  else s.resolveGranted

/-! ### The ends of OPENING and SETTLING -/

/-- R82: the readback of the own INTENT in OPENING. -/
def takeReadback (s : State) : State :=
  if s.own.withdrawMark then s.resolveWithdrawn
  else
    (s.setIntents (s.view.intents ++
      [{ station := s.ownId, number := s.currentIntent.number, delta := s.currentIntent.delta, origin := .intent, own := true }])).setOwn
      { s.own with hold := some s.holdWindow, confirmed := false, sentMark := false, doubtMark := false, intentState := .window }

/-- R83: an own record that is not GOOD, or a LOSS record, taken in OPENING. -/
def openingDoubt (s : State) : State :=
  if s.own.intentState = .opening then
    (if s.own.sentMark then s.resolveWithdrawn else s.setOwn { s.own with doubtMark := true })
  else s

/-- R83: SENT(INTENT) taken in OPENING. -/
def openingSent (s : State) : State :=
  if s.own.doubtMark then s.resolveWithdrawn else s.setOwn { s.own with sentMark := true }

/-- R109: DROPPED(INTENT) or RECALLED ends OPENING without a resolution. -/
def endOpening (s : State) : State :=
  s.setOwn { s.own with
    current := none, withdrawMark := false, sentMark := false, doubtMark := false, retry := some s.period,
    intentState := .retryWait }

/-- The last resolution was GRANTED (R110). -/
def lastGranted (s : State) : Bool := s.own.resolution.any (fun r => r.outcome == .granted)

/-- R110: the end of SETTLING. -/
def endSettling (s : State) : State :=
  if s.lastGranted then s.setOwn { s.own with current := none, intentState := .idle }
  else s.setOwn { s.own with current := none, intentState := .retryWait, retry := some s.period }

/-! ### Leaving and rejoining -/

/-- R86, R104 step 1, R106 step 1: the own intent is removed silently, whatever its state. -/
def removeIntent (s : State) : State :=
  (s.setIntents (removeOwnEntry s.view.intents)).setOwn { s.own with
    current := none, withdrawMark := false, sentMark := false, doubtMark := false, confirmed := false, hold := none,
    retry := none, intentState := .idle }

/-- R104: LEAVE. -/
def takeLeaveRequest (s : State) : State :=
  let t := s.removeIntent
  ((t.setOwn { t.own with committed := 0, listen := none, isolated := false, attach := .leaving })).clearForLeave

/-- R106: a rejoin. -/
def takeRejoin (s : State) : State :=
  let t := s.removeIntent
  ((t.setOwn { t.own with committed := 0, isolated := false, attach := .listening, listen := some (6 * s.period) }).setPeers
    (t.view.peers.map (fun p => { p with refreshed := false }))).rejoinLtx

/-- R105 with the LEAVE-completion columns of R19, R40, R73, R97, R123, R136, R147, R163, R172 and R186. -/
def completeLeave (s : State) : State :=
  (((((((s.setLrx { state := .disabled, checkOnly := false, lineCount := none }).setRsq .atReset).setLtx
    { s.ltx with pend := .empty, recallHeld := false, attempt := none, intentSent := false, announce := none,
                 isolation := none, isolationInd := false, rejoinGiven := false }).setOwn
    { OwnContext.atReset with target := s.own.target, minStep := s.own.minStep, nextNumber := s.own.nextNumber,
                              lastOutcome := s.own.lastOutcome }).setView
    { View.atReset with duplicate := s.view.duplicate }).setSlu { s.slu with hostShed := false })).setCmon
    { s.cmon with trip := .clear, hold := none, holdEdge := false, consecutive := 0, clean := none }

/-! ### The proportional shed -/

/-- R131: the claim after the proportional shed under budget B and view total T. -/
def shedClaim (s : State) (budget : Nat) : Nat :=
  max s.floor (s.own.committed * (32768 * budget / s.viewTotal) / 32768)

/-- Step 3 of R129 in MEMBER (R131, R132): the cut, its ANNOUNCE, and the withdrawal of an intent in OPENING. -/
def proportionalShed (s : State) (budget : Nat) : State :=
  if s.own.attach = .member ∧ budget < s.viewTotal then
    let new := s.shedClaim budget
    let t := s.setOwn { s.own with committed := new }
    if new < s.own.committed then
      let u := t.request .announce
      if u.own.intentState = .opening then u.withdrawalCause else u
    else t
  else s

/-- Step 2 of R129: an intent in its window is withdrawn. -/
def withdrawWindow (s : State) : State := if s.own.intentState = .window then s.resolveWithdrawn else s

/-- Step 4 of R129 (R133): the deficit check. -/
def deficitCheck (s : State) (budget : Nat) : State := if budget < s.floorSum then fire .budgetDeficit s else s

end State

end Sys2Proof.Machine
end

