-- ==== Sys2Proof/Machine/Output.lean ====
section
/-! DEFINITION. The outputs that follow the state: ALERT (R166), the SHD drive (R137), the effective reference with LIMREF and
the grace value (R148, R149, R152), GATE (R150), the threshold and the comparator with its qualification (R151, R154). Every
event that changes one of their inputs ends with `settle`. -/

namespace Sys2Proof.Machine

namespace State

/-- R166: ALERT is asserted while the notify set is not empty. -/
def alertOf (s : State) : Bool := s.notifySet != 0

/-- R137: SHD is driven while the station is configured and the host source or the alarm source holds. -/
def drivesShd (s : State) : Bool :=
  s.configured && (s.slu.hostShed || (s.own.attach != .detached && s.lineSet != 0))

/-- R148: a force condition holds. -/
def forced (s : State) : Bool := s.shedInEffect || s.own.isolated || s.forceSet != 0

/-- R148: the effective reference. -/
def referenceClaim (s : State) : Nat :=
  if s.own.attach = .member then (if s.forced then s.floor else s.own.committed) else 0

/-- R150: the gate is on while the attach state is MEMBER and the trip state is CLEAR. -/
def gateOf (s : State) : Bool := s.own.attach == .member && s.cmon.trip == .clear

/-- R152: the follow time. -/
def followTime (s : State) : Nat := s.readConfig (fun c => followTicks c.follow)

/-- R152: grace value and follow timer when the effective reference goes from `old` to `new`. -/
def graceStep (s : State) (old new : Nat) : Nat × Option Nat :=
  if s.own.attach ≠ .member then (0, none)
  else if new < old then
    (if s.followTime = 0 then (s.cmon.grace, s.cmon.follow) else (max s.cmon.grace old, some s.followTime))
  else if old < new ∧ s.cmon.grace ≤ new then (0, none)
  else (s.cmon.grace, s.cmon.follow)

/-- R149, R150, R152: OC recomputes the effective reference and the gate; CMON takes the change of the reference. -/
def settleOutput (s : State) : State :=
  let g := s.graceStep s.oc.effRef s.referenceClaim
  (s.setCmon { s.cmon with grace := g.1, follow := g.2 }).setOc { effRef := s.referenceClaim, gate := s.gateOf }

/-- R151: the threshold. -/
def threshold (s : State) : Nat := min 4095 (max s.oc.effRef s.cmon.grace + s.readConfig (·.tripMargin))

/-- R151: the comparator is over while SENSE is above the threshold. -/
def comparatorOver (s : State) : Bool := s.threshold < s.pins.sense

/-- R154: the comparator is evaluated while the attach state is MEMBER and the trip state is CLEAR or HOLD. -/
def evaluated (s : State) : Bool := s.own.attach == .member && s.cmon.trip != .latched

/-- R153: the comparator is blanked while the blanking timer runs. -/
def blanked (s : State) : Bool := s.cmon.blanking.isSome

/-- R154: what the comparator does to the qualify count and the armed mark outside the passing of time. -/
def settleComparator (s : State) : State :=
  if !s.evaluated || (!s.blanked && !s.comparatorOver) then s.setCmon { s.cmon with qualify := 0, armed := true, reached := false }
  else s

/-- ALERT and the SHD drive follow their sets (R137, R166). The drive does not move the level held at the SHD pin, which
SHD_LEVEL_CHANGE tells (R137, R141; DESIGN CHOICE, safe: log 43). -/
def settleLines (s : State) : State :=
  (s.setAu { s.au with alert := s.alertOf }).setSlu { s.slu with driven := s.drivesShd }

/-- All outputs follow the state at the event that changes it. -/
def settle (s : State) : State := s.settleLines.settleOutput.settleComparator

/-- The end of an event that CE takes: the opening test (R107), then the outputs. -/
def endOfCeEvent (s : State) : State := s.openingTest.settle

/-- R154: the qualify count advances with time. -/
def qualifying (s : State) : Bool := s.evaluated && !s.blanked && s.comparatorOver && s.cmon.armed

/-- R154: the qualify time. -/
def qualifyTime (s : State) : Nat := s.readConfig (fun c => qualifyTicks c.qualify)

/-- The level at ALERT, true when high: low while asserted, high while released (R166). -/
def alertHigh (s : State) : Bool := !s.au.alert

/-- The level at GATE, true when high: high while the gate is on (11 section 7). -/
def gateHigh (s : State) : Bool := s.oc.gate

/-- LIMREF: the effective reference as a 12-bit code (R149). -/
def limref (s : State) : BitVec 12 := BitVec.ofNat 12 s.oc.effRef

end State

/-- The outcome of every command: a next state. -/
abbrev Out := Host.Outcome State Fault Refusal

end Sys2Proof.Machine
end

