-- ==== Sys2Proof/Machine/Link.lean ====
section
/-! DEFINITION. The commands of the Link Receiver: what SDL does to LRX (chapter 1), and the recessive time of LTX (R24).
A command whose occasion is absent did not happen and changes nothing (log 3). -/

namespace Sys2Proof.Machine

namespace State

/-- A frame ends before its EOD: the record is made at once and LRX enters DISCARD (R5, R6, R7). It never carries the own
mark (R12). -/
def discardFrame (s : State) (bs : List Byte) (length : Nat) (content : Content) : State :=
  ((s.setLrxState .discard).handRecord (recordOf bs false length content)).settle

/-- R14, R15: line count and COUNT_MISMATCH at classification. Check-only mode leaves the line count alone (R13). -/
def countFrame (s : State) (c : Classified) (bs : List Byte) : Option Nat × Bool :=
  match c with
  | .good d =>
    if s.lrx.checkOnly = false ∧ d.kind.numbered = true then
      (some (countStep s.lrx.lineCount (frameCount bs)).1, (countStep s.lrx.lineCount (frameCount bs)).2)
    else (s.lrx.lineCount, false)
  | .crcError | .fragment | .formatError => (s.lrx.lineCount, false)

/-- R32: the restart of the announce timer by the reference station's ANNOUNCE. -/
def alignAnnounce (s : State) (sender : Nat) : State :=
  if s.ltx.announce.isSome ∧ s.view.reference = some sender then
    s.setLtx { s.ltx with announce := some ((s.ownId + 32 - sender) % 32 * s.slot) }
  else s

/-- R12, R13: LRX gives LTX the sender ID of a GOOD ANNOUNCE, outside check-only mode. -/
def handOff (s : State) (c : Classified) (bs : List Byte) : State :=
  match c with
  | .good (.announce _) => if s.lrx.checkOnly then s else s.alignAnnounce (frameSender bs)
  | .good (.intent _) | .good (.settle _) | .good .leave | .good .check | .crcError | .fragment | .formatError => s

/-- R36: what a CHECK attempt needs of the frame that LRX has classified. -/
def checkGood (s : State) (c : Classified) (bs : List Byte) : Bool :=
  match c with
  | .good _ => readBackWords bs == s.pattern
  | .crcError | .fragment | .formatError => false

/-- R9, R12, R14, R28: the completion of an EOD in RECEIVING, as one event. -/
def frameEnds (s : State) (bs : List Byte) : State :=
  ((((s.setLrx { s.lrx with state := .hunt true, lineCount := (s.countFrame (classify bs) bs).1 }).handRecord
      (recordOf bs s.ltx.attempt.isSome bs.length (contentOf (classify bs) (s.countFrame (classify bs) bs).2))).handOff
      (classify bs) bs).attemptSent (s.checkGood (classify bs) bs)).settle

/-- R5: the state in which LRX recognises the shape of a frame start after idle, if there is one: the start is one of which no
dominant level was told, or began with a level that may open a frame. -/
def frameStart (s : State) : Option State :=
  match s.seesIdle.lrx.state with
  | .hunt true => some s.seesIdle.sdlStarted
  | .starting age => if s.mayOpen age then some s else none
  | .hunt false | .disabled | .receiving _ | .discard => none

end State

/-- START_DELIMITER (R3, R5): a valid SOD after idle. -/
def execStartDelimiter (s : State) : Out :=
  match s.frameStart with
  | none => .next s
  | some t => .next (t.setLrxState (.receiving []))

/-- MALFORMED_START (R5): a FRAGMENT record of length 0. -/
def execMalformedStart (s : State) : Out :=
  match s.frameStart with
  | none => .next s
  | some t => .next (t.discardFrame [] 0 .fragment)

/-- VIOLATION (R7): SYMBOL_ERROR with 4 or more whole bytes, FRAGMENT with fewer. -/
def execViolation (s : State) : Out :=
  match s.lrx.state with
  | .receiving bs => .next (s.discardFrame bs bs.length (if bs.length < 4 then .fragment else .symbolError))
  | .disabled | .hunt _ | .starting _ | .discard => .next s

/-- TOO_LONG (R6): the twenty-fifth whole byte completes before any EOD. -/
def execTooLong (s : State) : Out :=
  match s.lrx.state with
  | .receiving bs => if bs.length = 24 then .next (s.discardFrame bs 25 .tooLong) else .next s
  | .disabled | .hunt _ | .starting _ | .discard => .next s

/-- END_DELIMITER (R3, R9, R12, R28). When LRX is not assembling the frame, the EOD still ends an attempt in flight (log 10). -/
def execEndDelimiter (s : State) : Out :=
  match s.lrx.state with
  | .receiving bs => .next (s.sdlTwoCellsRecessive.frameEnds bs)
  | .disabled | .hunt _ | .starting _ | .discard =>
    if s.ltx.attempt.isSome then .next (s.sdlTwoCellsRecessive.attemptSent false).settle else .next s

/-- LINE_IDLE (R3, R5, R8, R24): idle ends DISCARD, and is the idle that HUNT waits for. SDL is recessive, and has been for 2
bit times. -/
def execLineIdle (s : State) : Out :=
  if s.lineIdle then
    match s.lrx.state with
    | .discard | .hunt _ | .starting _ => .next (s.sdlIdle.setLrxState (.hunt true))
    | .disabled => .next s.sdlIdle
    | .receiving _ => .next s
  else .next s

/-- WHOLE_BYTE (R6, R13, R38): up to 24 whole bytes are kept; during a CHECK attempt the byte is passed to LTX. The
twenty-fifth byte of a frame makes the TOO_LONG record whether it comes as WHOLE_BYTE or as TOO_LONG: the rows leave open
which of the two reports it (DESIGN CHOICE, safe: log 35). -/
def execWholeByte (b : Byte) (s : State) : Out :=
  match s.lrx.state with
  | .receiving bs =>
    if bs.length < 24 then
      let t := s.setLrxState (.receiving (bs ++ [b]))
      if s.inFlight .check then .next (t.setLtx { t.ltx with capture := t.ltx.capture.byteRead (bs ++ [b]) })
      else .next t
    else .next (s.discardFrame bs 25 .tooLong)
  | .disabled | .hunt _ | .starting _ | .discard => .next s

/-- SDL_DOMINANT (R5, R24): a dominant level begins on SDL (log 4). -/
def execSdlDominant (s : State) : Out := .next s.seesIdle.sdlTurnsDominant

end Sys2Proof.Machine
end

