-- ==== Sys2Proof/Machine/Monitor.lean ====
section
/-! DEFINITION. The Current Monitor: blanking, qualification, trips, holds and the latch (R152 to R161). -/

namespace Sys2Proof.Machine

namespace State

/-- R153: the blanking timer at an edge of PWME. With code 0, and before the first configuration when no code is read, an
edge blanks nothing (log 18). -/
def blankingAtEdge (s : State) : Option Nat :=
  let t := s.readConfig (fun c => blankingTicks c.blanking)
  if t = 0 then none else some t

/-- R156: the end of a hold. -/
def endHold (s : State) : State := s.setCmon { s.cmon with trip := .clear, hold := none, holdEdge := false }

/-- R153: the blanking timer has run out. -/
def blankingDue (s : State) : Bool := expired s.cmon.blanking

/-- R154: a trip is due: over, armed, evaluated, not blanked, and the qualify count at the qualify time; or all of this held
when an edge at the same moment began to blank the comparator (R157, log 30). -/
def tripDue (s : State) : Bool :=
  (s.evaluated && s.cmon.reached) || (s.qualifying && s.qualifyTime ≤ s.cmon.qualify)

/-- R155 steps 1 to 4, and the qualify count and armed mark of R154. -/
def countTrip (s : State) : State :=
  let t := fire .trip s
  (t.setCounters { t.lport.counters with trips := bump t.lport.counters.trips }).setCmon
    { t.cmon with
      consecutive := min 255 (t.cmon.consecutive + 1), clean := some cleanTicks, qualify := 0, armed := false,
      reached := false }

/-- R159: the escalation to LATCHED with TRIP_LATCHED. -/
def latchTrip (s : State) : State :=
  fire .tripLatched (s.setCmon { s.cmon with trip := .latched, hold := none, holdEdge := false, clean := none })

/-- R156: a trip begins or restarts a hold. -/
def holdTrip (s : State) (m : TripMode) : State :=
  s.setCmon { s.cmon with trip := .hold, hold := some (holdTicks m), holdEdge := m == .retryEdge }

/-- R159: the consecutive-trip count has reached the retry limit. -/
def limitReached (s : State) : Bool := s.readConfig (·.retryLimit) ≤ s.cmon.consecutive

/-- R155 step 5: the trip mode acts (R156, R159). -/
def actOnTrip (s : State) : State :=
  match s.tripMode with
  | .report => s
  | .latch => s.latchTrip
  | .retry20 => if s.limitReached then fire .overdrawPersistent s.latchTrip else s.holdTrip .retry20
  | .retry50 => if s.limitReached then fire .overdrawPersistent s.latchTrip else s.holdTrip .retry50
  | .retryEdge => if s.limitReached then fire .overdrawPersistent s.latchTrip else s.holdTrip .retryEdge

/-- R156: the hold timer has run out. -/
def holdEndDue (s : State) : Bool := s.cmon.trip == .hold && expired s.cmon.hold

/-- R158: the clean timer has run out. -/
def cleanDue (s : State) : Bool := expired s.cmon.clean

/-- R152: the follow timer has run out. -/
def followDue (s : State) : Bool := expired s.cmon.follow

end State

/-- PWME_EDGE (R153, R156): the edge starts blanking; a rising edge ends a RETRY_EDGE hold. A trip due at the same moment is
still made after the edge (R157, log 30). A rising edge taken after such a trip ends the hold that the trip restarted: R156
says so of an edge taken after the trip, while the first row of R157 says that the trip state stays HOLD (log 32). -/
def execPwmeEdge (rising : Bool) (s : State) : Out :=
  let t := s.setPins { s.pins with pwme := rising }
  if s.rst.held then .next t
  else
    let u := t.setCmon { t.cmon with blanking := s.blankingAtEdge, reached := s.tripDue }
    if rising && u.cmon.trip == .hold && u.cmon.holdEdge then .next u.endHold.settle else .next u.settle

/-- BLANKING_END (R153, R154): the comparator is read afresh. -/
def execBlankingEnd (s : State) : Out :=
  if s.blankingDue then .next (s.setCmon { s.cmon with blanking := none }).settle else .next s

/-- SENSE_CHANGE (R151, R154). A level below the threshold that is taken at the moment at which a trip is due, before TRIP, returns
the count to 0 (DESIGN CHOICE, safe: log 47). -/
def execSenseChange (level : Nat) (s : State) : Out := .next (s.setPins { s.pins with sense := level }).settle

/-- TRIP (R154, R155, R156, R159). -/
def execTrip (s : State) : Out := if s.tripDue then .next s.countTrip.actOnTrip.settle else .next s

/-- TRIP_HOLD_END (R156). -/
def execTripHoldEnd (s : State) : Out := if s.holdEndDue then .next s.endHold.settle else .next s

/-- CLEAN_TIMER_EXPIRY (R158). -/
def execCleanTimerExpiry (s : State) : Out :=
  if s.cleanDue then .next (s.setCmon { s.cmon with consecutive := 0, clean := none }) else .next s

/-- FOLLOW_TIMER_EXPIRY (R152). -/
def execFollowTimerExpiry (s : State) : Out :=
  if s.followDue then .next (s.setCmon { s.cmon with grace := 0, follow := none }).settle else .next s

end Sys2Proof.Machine
end

