-- ==== Sys2Proof/Machine/Shed.lean ====
section
/-! DEFINITION. The Shed Line Unit's observation of SHD and its recovery timer (R140 to R143). -/

namespace Sys2Proof.Machine

/-- The observed state that a level leads to (R140). -/
def observedOf (l : Level) : ShdObserved :=
  match l with
  | .dominant => .asserted
  | .recessive => .released

namespace State

/-- R140: the filter time of the level now on the wire: timed from its own start while it differs from the observed state. -/
def startFilter (s : State) : State :=
  s.setSlu { s.slu with filter := if observedOf s.pins.shd = s.slu.observed then none else some 0 }

/-- R140: the level on the wire has lasted 2 µs against the observed state. -/
def filterDue (s : State) : Bool := reached s.slu.filter shdFilterTicks && observedOf s.pins.shd != s.slu.observed

/-- R140, R141: the line is due to be observed ASSERTED. -/
def assertedDue (s : State) : Bool := s.filterDue && s.slu.observed == .released

/-- R140, R142: the line is due to be observed RELEASED. -/
def releasedDue (s : State) : Bool := s.filterDue && s.slu.observed == .asserted

/-- R141: the observed assertion. -/
def observeAsserted (s : State) : State :=
  fire .shedSeen ((s.setSlu { s.slu with observed := .asserted, filter := none, recovery := none }).giveSlu .shedStart)

/-- R142: the observed release. Without a configuration P has no value: shed in effect ceases at once. -/
def observeReleased (s : State) : State :=
  if s.configured then s.setSlu { s.slu with observed := .released, filter := none, recovery := some (2 * s.period) }
  else (s.setSlu { s.slu with observed := .released, filter := none }).giveSlu .shedEnd

/-- R140: a level that has lasted its 2 µs is observed at their end, before the change of level that comes at this moment (DEDUCED,
safe: log 44). -/
def observesDue (s : State) : State :=
  if s.assertedDue then s.observeAsserted.settle else if s.releasedDue then s.observeReleased.settle else s

/-- The level at SHD is now this one, and the filter times it from its start (R140). -/
def shdTurns (s : State) (level : Level) : State := (s.setPins { s.pins with shd := level }).startFilter

/-- R142: the recovery timer has run out. -/
def recoveryDue (s : State) : Bool := expired s.slu.recovery

end State

/-- SHD_LEVEL_CHANGE (R140). It alone tells the level at the pin: what the station drives itself is seen there only if the line
follows (R137; DESIGN CHOICE, safe: log 43). While a full reset lasts only the level is followed: the filter runs from its end. -/
def execShdLevelChange (level : Level) (s : State) : Out :=
  if s.rst.held then .next (s.setPins { s.pins with shd := level })
  else if s.pins.shd = level then .next s
  else .next (s.observesDue.shdTurns level)

/-- SHD_OBSERVED_ASSERTED (R141). -/
def execShdObservedAsserted (s : State) : Out := if s.assertedDue then .next s.observeAsserted.settle else .next s

/-- SHD_OBSERVED_RELEASED (R142). -/
def execShdObservedReleased (s : State) : Out := if s.releasedDue then .next s.observeReleased.settle else .next s

/-- RECOVERY_TIMER_EXPIRY (R142). -/
def execRecoveryTimerExpiry (s : State) : Out :=
  if s.recoveryDue then .next ((s.setSlu { s.slu with recovery := none }).giveSlu .shedEnd).settle else .next s

end Sys2Proof.Machine
end

