-- ==== Sys2Proof/Machine/Notices.lean ====
section
/-! DEFINITION. The Claim Engine's own timers (R84, R102, R111) and the notices it takes from LTX, SLU and AU (R112, R144,
R167, R169). Each command takes the oldest notice of its source; with another notice there, or none, it did not happen. -/

namespace Sys2Proof.Machine

namespace State

/-- R84: the hold timer has run out in WINDOW. -/
def holdDue (s : State) : Bool := s.own.intentState == .window && expired s.own.hold

/-- R111: the retry timer has run out in RETRY_WAIT. -/
def retryDue (s : State) : Bool := s.own.intentState == .retryWait && expired s.own.retry

/-- R102: the listen timer has run out in LISTENING. -/
def listenDue (s : State) : Bool := s.own.attach == .listening && expired s.own.listen

/-- R112: what a SENT notice of a kind does at CE. -/
def takeSent (s : State) (k : FrameKind) : State :=
  match k with
  | .intent => if s.attached && s.own.intentState == .opening then s.openingSent else s
  | .settle => if s.attached && s.own.intentState == .settling then s.endSettling else s
  | .leave => if s.own.attach = .leaving then s.completeLeave else s
  | .announce | .check => s

/-- R112: what a DROPPED notice of a kind does at CE. -/
def takeDropped (s : State) (k : FrameKind) : State :=
  match k with
  | .intent => if s.attached && s.own.intentState == .opening then s.endOpening else s
  | .settle => if s.attached && s.own.intentState == .settling then s.endSettling else s
  | .leave => if s.own.attach = .leaving then s.completeLeave else s
  | .announce | .check => s

/-- R109, R112: RECALLED. -/
def takeRecalled (s : State) : State :=
  if s.attached && s.own.intentState == .opening then s.endOpening else s

/-- R118 step 3: in MEMBER the claim falls to the floor and ANNOUNCE is requested. -/
def fallToFloor (s : State) : State :=
  if s.own.attach = .member then (s.setOwn { s.own with committed := s.floor }).request .announce else s

/-- R118: ISOLATED. -/
def takeIsolated (s : State) : State :=
  if s.attached then
    let t := s.withdrawalCause
    (fire .isolated (t.setOwn { t.own with isolated := true })).fallToFloor
  else s

/-- R119: ISOLATION_END. -/
def takeIsolationEnd (s : State) : State :=
  if s.attached then s.setOwn { s.own with isolated := false } else s

/-- R101, R39: the JOIN line check has passed and its run ends. LTX starts its timers with an empty set (log 9). -/
def enterListening (s : State) : State :=
  (s.setOwn { s.own with
      attach := .listening, intentState := .idle, committed := 0, current := none, withdrawMark := false, sentMark := false,
      doubtMark := false, confirmed := false, isolated := false, listen := some (6 * s.period) }).setLtx
    { s.ltx with
      pend := .empty, announce := some s.period, isolation := some 0, isolationInd := false, rejoinGiven := false,
      check := { s.ltx.check with run := none, repeatTimer := none } }

end State

/-- HOLD_WINDOW_EXPIRY (R87 to R92). -/
def execHoldWindowExpiry (s : State) : Out := if s.holdDue then .next s.decideIntent.endOfCeEvent else .next s

/-- RETRY_TIMER_EXPIRY (R111). -/
def execRetryTimerExpiry (s : State) : Out :=
  if s.retryDue then .next (s.setOwn { s.own with intentState := .idle, retry := none }).endOfCeEvent else .next s

/-- LISTEN_TIMER_EXPIRY (R102). -/
def execListenTimerExpiry (s : State) : Out :=
  if s.listenDue then .next (s.setOwn { s.own with attach := .joining, listen := none }).endOfCeEvent else .next s

/-- SENT_NOTICE (R112). -/
def execSentNotice (s : State) : Out :=
  match s.notices.ltx with
  | .sent k :: _ => .next (s.takeLtx.takeSent k).endOfCeEvent
  | _ => .next s

/-- DROPPED_NOTICE (R112). -/
def execDroppedNotice (s : State) : Out :=
  match s.notices.ltx with
  | .dropped k :: _ => .next (s.takeLtx.takeDropped k).endOfCeEvent
  | _ => .next s

/-- RECALLED_NOTICE (R109). -/
def execRecalledNotice (s : State) : Out :=
  match s.notices.ltx with
  | .recalled :: _ => .next s.takeLtx.takeRecalled.endOfCeEvent
  | _ => .next s

/-- ISOLATED_NOTICE (R118). -/
def execIsolatedNotice (s : State) : Out :=
  match s.notices.ltx with
  | .isolated :: _ => .next s.takeLtx.takeIsolated.endOfCeEvent
  | _ => .next s

/-- ISOLATION_END_NOTICE (R119). -/
def execIsolationEndNotice (s : State) : Out :=
  match s.notices.ltx with
  | .isolationEnd :: _ => .next s.takeLtx.takeIsolationEnd.endOfCeEvent
  | _ => .next s

/-- REJOIN_NOTICE (R106). -/
def execRejoinNotice (s : State) : Out :=
  match s.notices.ltx with
  | .rejoin :: _ => .next (if s.attached then s.takeLtx.takeRejoin else s.takeLtx).endOfCeEvent
  | _ => .next s

/-- CHECK_PASSED (R101). -/
def execCheckPassed (s : State) : Out :=
  match s.notices.ltx with
  | .checkPassed :: _ => .next (if s.own.attach = .detached then s.takeLtx.enterListening else s.takeLtx).endOfCeEvent
  | _ => .next s

/-- CHECK_FAILED (R101): no field of the context changes. -/
def execCheckFailed (s : State) : Out :=
  match s.notices.ltx with
  | .checkFailed :: _ => .next s.takeLtx.endOfCeEvent
  | _ => .next s

/-- SHED_START_NOTICE (R144). -/
def execShedStartNotice (s : State) : Out :=
  match s.notices.slu with
  | .shedStart :: _ => .next s.takeSlu.withdrawalCause.endOfCeEvent
  | _ => .next s

/-- SHED_END_NOTICE (R142, R144): CE takes it after an observed assertion that comes at the same moment, so that its opening
test reads shed in effect as it then stands (log 31). -/
def execShedEndNotice (s : State) : Out :=
  match s.notices.slu with
  | .shedEnd :: _ => if s.assertedDue then .next s else .next s.takeSlu.endOfCeEvent
  | _ => .next s

/-- FORCE_ALARM_NOTICE (R167). -/
def execForceAlarmNotice (s : State) : Out :=
  match s.notices.au with
  | .forceAlarm _ :: _ => .next s.takeAu.withdrawalCause.endOfCeEvent
  | _ => .next s

/-- CLEARED_NOTICE (R169). -/
def execClearedNotice (s : State) : Out :=
  match s.notices.au with
  | .cleared :: _ => .next s.takeAu.endOfCeEvent
  | _ => .next s

end Sys2Proof.Machine
end

