-- ==== Sys2Proof/Machine/ConfigRecord.lean ====
section
/-! DEFINITION. The configuration record as CONFIGURE sends it (R183), the range of each field (R176), and the configuration
digest (R50). -/

namespace Sys2Proof.Machine

/-- The number of words of a two-byte array at an offset. -/
def wordsAt (ps : List Byte) (k n : Nat) : List Nat := (List.range n).map (fun i => wordAt ps (k + 2 * i))

/-- The fields of the 52 parameter bytes (R183). -/
def parseConfig (ps : List Byte) : ConfigRecord :=
  { stationId := byteAt ps 0, bitRate := byteAt ps 1, period := byteAt ps 2, hold := byteAt ps 3, floor := wordAt ps 4,
    ceiling := wordAt ps 6, budgets := wordsAt ps 8 8, tripMargin := byteAt ps 24, blanking := byteAt ps 25,
    qualify := byteAt ps 26, follow := byteAt ps 27, tripMode := byteAt ps 28, retryLimit := byteAt ps 29,
    notifyMask := wordAt ps 30, forceMask := wordAt ps 32, lineMask := wordAt ps 34, pattern := wordsAt ps 36 8 }

/-- A set of kinds has bits 11 to 15 zero (R176, R183). -/
def kindsOnly (w : Nat) : Bool := w < 2048

/-- The accepted values of every field (R176). -/
def ConfigRecord.inRange (c : ConfigRecord) : Bool :=
  decide (1 ≤ c.stationId ∧ c.stationId ≤ 31 ∧ c.bitRate ≤ 3 ∧ c.period ≤ 3 ∧ 1 ≤ c.hold ∧ c.hold ≤ 40 ∧
    1 ≤ c.floor ∧ c.floor ≤ 4095 ∧ c.floor ≤ c.ceiling ∧ c.ceiling ≤ 4095 ∧ c.tripMargin ≤ 255 ∧
    c.blanking ≤ 3 ∧ c.qualify ≤ 3 ∧ c.follow ≤ 3 ∧ c.tripMode ≤ 4 ∧ 1 ≤ c.retryLimit ∧ c.retryLimit ≤ 15) &&
  kindsOnly c.notifyMask && kindsOnly c.forceMask && kindsOnly c.lineMask &&
  !holdsKind (BitVec.ofNat 16 c.lineMask) .shedSeen

/-- The 19 digest bytes (R50). -/
def ConfigRecord.digestBytes (c : ConfigRecord) : List Byte :=
  u8 c.bitRate :: u8 c.period :: u8 c.hold :: c.budgets.flatMap u16

/-- The config digest (R50). -/
def ConfigRecord.digest (c : ConfigRecord) : Nat := (crc c.digestBytes).toNat

end Sys2Proof.Machine
end

