-- ==== Sys2Proof/Machine/Profile.lean ====
section
/-! DEFINITION. The Profile Unit (R126, R127) and the profile change event at the Claim Engine (R129 to R135). -/

namespace Sys2Proof.Machine

/-- R125: the entry of the profile table at an index; 0 while the table is empty. -/
def budgetAt (table : Option (List Nat)) (index : Nat) : Nat :=
  match table with
  | none => 0
  | some t => t.getD index 0

namespace State

/-- R126: the settle timer after a change of the sampled index: started or restarted at 0 while the index differs from the
profile in effect, stopped when it is back. -/
def sampleChanged (s : State) : State :=
  s.setPfu { s.pfu with settle := if State.sampledIndex s.pins = s.pfu.profile then none else some 0 }

/-- R126: the settle timer has reached 1 ms. -/
def settleDue (s : State) : Bool := reached s.pfu.settle settleTicks

/-- R127: the sampled index becomes the profile in effect, and CE is given a profile change event. -/
def profileSettles (s : State) : State :=
  let i := State.sampledIndex s.pins
  (s.setPfu { s.pfu with settle := none, profile := i, age := 0, budget := budgetAt s.pfu.table i }).givePfu
    { index := i, budget := budgetAt s.pfu.table i }

/-- R129 steps 1 to 4 under the budget that the event names. -/
def applyProfileChange (s : State) (budget : Nat) : State :=
  ((s.unrefresh.withdrawWindow).proportionalShed budget).deficitCheck budget

end State

/-- PSEL_CHANGE (R126). Taken at the moment at which the settle timer reaches 1 ms, before SETTLE_TIMER_EXPIRY, it restarts or stops
the timer (DESIGN CHOICE, safe: log 47). While a full reset lasts only the wires are followed, and the profile shown is their index (log 5). -/
def execPselChange (psel0 psel1 psel2 : Bool) (s : State) : Out :=
  let t := s.setPins { s.pins with psel0 := psel0, psel1 := psel1, psel2 := psel2 }
  if s.rst.held then .next (t.setPfu { t.pfu with profile := State.sampledIndex t.pins })
  else if State.sampledIndex t.pins = State.sampledIndex s.pins then .next s
  else .next t.sampleChanged

/-- SETTLE_TIMER_EXPIRY (R126, R127). -/
def execSettleTimerExpiry (s : State) : Out := if s.settleDue then .next s.profileSettles else .next s

/-- PROFILE_CHANGE_EVENT (R129, R135): no action in DETACHED and LEAVING. -/
def execProfileChangeEvent (s : State) : Out :=
  match s.notices.pfu with
  | e :: _ => .next (if s.attached then s.takePfu.applyProfileChange e.budget else s.takePfu).endOfCeEvent
  | [] => .next s

end Sys2Proof.Machine
end

