-- ==== Sys2Proof/Machine/Responses.lean ====
section
/-! DEFINITION. The data of the responses (R180 to R184): the status record, the parts of the snapshot, the capture record
and the counters, byte by byte as R183 lays them out. -/

namespace Sys2Proof.Machine

/-- The response code's value (R174). -/
def RespCode.value : RespCode → Byte
  | .done => 0x00
  | .accepted => 0x01
  | .refusedState => 0x02
  | .badValue => 0x03
  | .unknown => 0x04

/-- The bytes that MISO shifts out: response code, request code, data (R174). -/
def Response.bytes (r : Response) : List Byte := r.code.value :: r.request :: r.data

/-- Status record byte 0 (R183). -/
def AttachState.code : AttachState → Nat
  | .detached => 0
  | .listening => 1
  | .joining => 2
  | .member => 3
  | .leaving => 4

/-- Status record byte 1 (R183). -/
def IntentState.code : IntentState → Nat
  | .idle => 0
  | .opening => 1
  | .window => 2
  | .settling => 3
  | .retryWait => 4

/-- Status record byte 10, bits 1 and 2 (R183). -/
def TripState.code : TripState → Nat
  | .clear => 0
  | .hold => 1
  | .latched => 2

/-- An outcome in the codes of status byte 22 (R183); NONE is 0. -/
def outcomePortCode (o : Option IntentOutcome) : Nat :=
  match o with
  | none => 0
  | some .granted => 1
  | some .refused => 2
  | some .deferred => 3
  | some .withdrawn => 4

/-- A margin class in the codes of status byte 22, 3 when absent (R183). -/
def marginPortCode (m : Option MarginClass) : Nat :=
  match m with
  | some .negative => 0
  | some .zero => 1
  | some .positive => 2
  | none => 3

namespace State

/-- Status record byte 12 (R183). -/
def statusFlags (s : State) : Byte :=
  packBits [s.certain, s.own.isolated, s.shedInEffect, s.slu.hostShed, s.slu.driven, s.slu.observed == .asserted, s.configured,
    s.lrx.lineCount.isSome]

/-- The status record (R180, R183). -/
def statusRecord (s : State) : List Byte :=
  [u8 s.own.attach.code, u8 s.own.intentState.code] ++ u16 s.own.committed ++ u16 s.own.target ++ u16 s.own.minStep ++
    u16 s.oc.effRef ++ [u8 (s.oc.gate.toNat + 2 * s.cmon.trip.code), u8 s.cmon.consecutive, s.statusFlags, u8 s.pfu.profile] ++
    u16 s.pfu.budget ++ u24 s.viewTotal ++
    [u8 (s.view.peers.countP Peer.isLive), u8 (s.view.peers.countP (fun p => !p.isLive)), u8 s.view.intents.length,
      u8 (outcomePortCode s.own.lastOutcome.outcome + 16 * marginPortCode s.own.lastOutcome.margin)] ++
    u16 s.own.lastOutcome.granted ++ u16 s.au.flags.toNat ++ u16 (s.lrx.lineCount.getD 0)

end State

/-! ### The snapshot -/

/-- A timer value in units of 0.1 ms (R183). The rounding of a value between two units is free (log 13). -/
def tenths (t : Nat) : Nat :=
  if t % tenthMsTicks = 0 then t / tenthMsTicks else t / tenthMsTicks + (Config.roundsUp t).toNat

/-- A timer's remaining time, absent when it is stopped (R122, R183). -/
def uTimer (t : Option Nat) : List Byte := u16Opt (t.map tenths)

/-- The current intent, preceded by its presence byte (R183, log 15). -/
def intentGroup (i : Option IntentFields) : List Byte :=
  uFlag i.isSome :: u8Opt (i.map (·.number)) ::
    u16Opt (i.map (·.delta)) ++ u16Opt (i.map (·.deltaMin)) ++ u16Opt (i.map (·.committedBefore))

/-- The fields of a resolution in the order of R92 step 4 (R183, log 15). -/
def settleGroup (r : Option SettleFields) : List Byte :=
  [u8Opt (r.map (·.number)), u8Opt (r.map (fun f => outcomePortCode (some f.outcome))), u8 (marginPortCode (r.bind (·.margin)))] ++
    u16Opt (r.map (·.granted)) ++ u16Opt (r.map (·.committedAfter))

/-- OWN index 0: the own context summary in the order of R122. -/
def ownRecordBytes (o : OwnSummary) : List Byte :=
  [u8 o.stationId, u8 o.context.attach.code, u8 o.context.intentState.code] ++ u16 o.context.committed ++
    u16 o.context.target ++ u16 o.context.minStep ++ u16 o.floor ++ [u8 o.context.nextNumber] ++
    intentGroup o.context.current ++
    [uFlag o.context.withdrawMark, uFlag o.context.sentMark, uFlag o.context.doubtMark, uFlag o.context.confirmed] ++
    uTimer o.context.hold ++ uTimer o.context.retry ++ uTimer o.context.listen ++
    (uFlag o.context.resolution.isSome :: settleGroup o.context.resolution) ++
    [u8 (outcomePortCode o.context.lastOutcome.outcome)] ++ u16 o.context.lastOutcome.granted ++
    [u8 (marginPortCode o.context.lastOutcome.margin), uFlag o.context.isolated, uFlag o.certain] ++ u24 o.total ++
    u24Opt o.pendingAhead ++ [u8Opt o.reference] ++ uTimer o.duplicate

/-- OWN index 1: the last peer settlement in the order of R78, preceded by its presence byte (R181, R183, log 15). -/
def settlementBytes (p : Option PeerSettlement) : List Byte :=
  uFlag p.isSome :: u8Opt (p.map (·.sender)) :: settleGroup (p.map (·.settle)) ++
    [((p.map (fun q => uFlag q.matched)).getD 0xFF)]

/-- A peer's announced attach state: the status-record codes 1 to 3, with 5 for UNKNOWN (R183). -/
def announcedPortCode (a : Option AnnouncedState) : Nat :=
  match a with
  | some .listening => 1
  | some .joining => 2
  | some .member => 3
  | none => 5

/-- A peer record in the order of R52 (R183). The quiet time is laid out as a timer value, two bytes in units of 0.1 ms: R52
keeps it in ms and R183 does not name it (DEDUCED, safe: log 34). -/
def peerBytes (p : Peer) : List Byte :=
  [u8 p.id, u8 (match p.presence with | .live => 0 | .lost => 1), u8 (announcedPortCode p.announced)] ++ u16 p.committed ++
    u16Opt p.floor ++ [uFlag p.refreshed] ++ u16 (tenths p.quiet) ++
    [u8Opt p.profile, ((p.digestMatch.map uFlag).getD 0xFF)]

/-- An intent entry in the order of R74 (R183). It carries no granted amount, outcome or margin class, of which R57 says that they
stay visible there (DESIGN CHOICE, unsafe: log 40). -/
def entryBytes (e : Entry) : List Byte :=
  [u8 e.station, u8 e.number] ++ u16 e.delta ++ [u8 (match e.origin with | .intent => 0 | .learned => 1), uFlag e.own]

namespace Snapshot

/-- The generation and the two counts (R181, R183). -/
def prefixBytes (b : Snapshot) : List Byte := [u8 b.generation, u8 b.peers.length, u8 b.intents.length]

/-- The record at a section and index; none when they are out of range (R181). -/
def part (b : Snapshot) (sect index : Nat) : Option (List Byte) :=
  match sect, b.own with
  | 0, none => none
  | 0, some o =>
    match index with
    | 0 => some (ownRecordBytes o)
    | 1 => some (settlementBytes b.settlement)
    | _ + 2 => none
  | 1, _ => b.peers[index]?.map peerBytes
  | 2, _ => b.intents[index]?.map entryBytes
  | _ + 3, _ => none

end Snapshot

namespace State

/-- The own context summary (R122). -/
def ownSummary (s : State) : OwnSummary :=
  { stationId := s.ownId, context := s.own, floor := s.floor, certain := s.certain, total := s.viewTotal,
    pendingAhead := pendingAhead s.view.intents, reference := s.view.reference, duplicate := s.view.duplicate }

/-- R121: the copy, taken as one event. -/
def snapshotTaken (s : State) : State :=
  s.setSnap
    { own := some s.ownSummary, peers := s.view.peers, intents := s.view.intents, settlement := s.view.lastSettlement,
      generation := (s.snap.generation + 1) % 256 }

/-! ### Capture and counters -/

/-- The run state byte: 0 IDLE, or 1 + mode + 4 × phase (R183). -/
def runByte (s : State) : Nat :=
  match s.ltx.check.run with
  | none => 0
  | some r =>
    1 + (match r.mode with | .single => 0 | .untilFail => 1 | .continuous => 2) +
      4 * (match r.phase with | .sending => 0 | .waiting => 1 | .stopping => 2)

/-- One capture slot: a presence byte and two bytes of value, which are free for an absent slot (R183, log 14). -/
def slotBytes (s : State) (k : Nat) : List Byte :=
  match s.ltx.capture.slots.getD k none with
  | some v => 1 :: u16 v
  | none => 0 :: u16 (Config.absentSlotValue s.freeCount k)

/-- The capture record (R182, R183). -/
def captureRecord (s : State) : List Byte :=
  [u8 s.runByte, u8 (match s.ltx.check.owner with | none => 0 | some .host => 1 | some .join => 2),
    u8 (match s.ltx.check.lastResult with | none => 0 | some .passed => 1 | some .failed => 2),
    u8 s.ltx.check.failCounter, u8Opt s.ltx.capture.index] ++ (List.range 8).flatMap s.slotBytes

end State

/-- The eight counters (R183, R184). -/
def Counters.bytes (c : Counters) : List Byte :=
  u16 c.good ++ u16 c.error ++ u16 c.lost ++ u16 c.mismatch ++ u16 c.lostArb ++ u16 c.txFault ++ u16 c.dropped ++ u16 c.trips

end Sys2Proof.Machine
end

