-- ==== Sys2Proof/Machine/Port.lean ====
section
/-! DEFINITION. The requests at the local port (R173 to R186). A request is carried out at the rising edge of CSN that ends a
transaction; without a transaction in progress there is no such edge (log 12). -/

namespace Sys2Proof.Machine

/-- What a request that passes every test of R174 does: the state after it, its response code and its data. -/
structure Carried where
  state : State
  code : RespCode
  data : List Byte

/-- A force-alarm notice of a kind in the set (R167). -/
def AuNotice.forces (kinds : Word16) (n : AuNotice) : Bool :=
  match n with
  | .forceAlarm k => holdsKind kinds k
  | .cleared => false

/-- The notices of AU up to the last force-alarm notice of a kind in the set (R170). -/
def forcedNotices (kinds : Word16) : List AuNotice → List AuNotice
  | [] => []
  | n :: ns => if (n :: ns).any (AuNotice.forces kinds) then n :: forcedNotices kinds ns else []

namespace State

/-- Transactions are ignored from the fall of RESETN until 100 µs after its rise (R173). -/
def portBlind (s : State) : Bool := s.rst.held || s.rst.blind.isSome

/-- A transaction ends here: one is in progress and the port is not blind. -/
def transactionEnds (s : State) : Bool := s.lport.transaction.isSome && !s.portBlind

/-- The byte that MISO carries at a position of a transaction: 0x00 past the end of the response and while the port ignores
transactions; none while MISO is released (R173). R173 releases MISO while CSN is high, too; the model holds no level of CSN while
the port is blind, and gives 0x00 throughout (DESIGN CHOICE, safe: log 49). A falling edge of CSN in the blind time is ignored, and
the spec does not say what MISO carries when that time ends with CSN still low: the model has no transaction then, and MISO is
released (DESIGN CHOICE, safe: log 41). -/
def misoByte (s : State) (k : Nat) : Option Byte :=
  if s.portBlind then some 0 else s.lport.transaction.map (fun copy => copy.getD k 0)

/-- The bit that MISO carries in a cycle of SCK, counted from 0 at the falling edge of CSN: one byte per eight cycles, most
significant bit first; none while MISO is released (R173, log 42). -/
def misoBit (s : State) (cycle : Nat) : Option Bool :=
  (s.misoByte (cycle / 8)).map (fun b => (portBits b).getD (cycle % 8) false)

/-- MISO is released: the transaction is over. -/
def endTransaction (s : State) : State := s.setLport { s.lport with transaction := none }

/-- The response replaces the slot (R173, R174). -/
def respond (s : State) (code : RespCode) (request : Byte) (data : List Byte) : State :=
  s.setLport { s.lport with slot := { code := code, request := request, data := data } }

/-- R174 tests 2 to 4 and the response, for a request whose code names it. `enough`: the transaction holds the bytes the
request needs; `taken`: the present state takes it (R175); `inRange`: every parameter is in range. Only a request that
passes every test carries data: so BAD_VALUE to READ SNAPSHOT carries neither generation nor counts, though R181 gives them to every
answer (DEDUCED, unsafe: log 45). -/
def answer (s : State) (request : Byte) (enough taken inRange : Bool) (carry : State → Carried) : State :=
  if s.transactionEnds then
    let t := s.endTransaction
    if !enough then t.respond .badValue request []
    else if !taken then t.respond .refusedState request []
    else if !inRange then t.respond .badValue request []
    else (carry t).state.respond (carry t).code request (carry t).data
  else s

/-! ### When a request is taken (R175) -/

/-- DETACHED with no line check running. -/
def idleDetached (s : State) : Bool := s.own.attach == .detached && !s.lineCheckRunning

/-- DETACHED, configured, no line check running. -/
def mayCheck (s : State) : Bool := s.idleDetached && s.configured

/-- Configured and not LEAVING. -/
def mayTarget (s : State) : Bool := s.configured && s.own.attach != .leaving

/-- A line check running whose owner is the host. -/
def mayStop (s : State) : Bool := s.lineCheckRunning && s.ltx.check.owner == some .host

/-! ### What the requests carry out -/

/-- R176, R177: an accepted configuration record. -/
def storeConfig (s : State) (c : ConfigRecord) : State :=
  ((((s.setLport { s.lport with config := some c, digest := some c.digest }).setPfu
    { s.pfu with table := some c.budgets, budget := budgetAt (some c.budgets) s.pfu.profile }).setAu
    { s.au with notifyMask := BitVec.ofNat 16 c.notifyMask, forceMask := BitVec.ofNat 16 c.forceMask,
                lineMask := BitVec.ofNat 16 c.lineMask }).setOwn
    { s.own with target := min s.own.target c.ceiling }).settle

/-- R116: SET TARGET at CE. -/
def applyTarget (s : State) (target minStep : Nat) : State :=
  let t := s.setOwn { s.own with target := target, minStep := minStep }
  if s.own.attach = .member ∧ target ≤ s.own.committed then
    (if target < s.own.committed then t.withdrawalCause.decrease else t.withdrawalCause)
  else t

/-- R160: RE-ENABLE in LATCHED. -/
def releaseLatch (s : State) : State :=
  (s.setCmon { s.cmon with trip := .clear, consecutive := 0, clean := none, qualify := 0, armed := true, reached := false }).settle

/-- R138: the host-shed flag. -/
def setHostShed (s : State) (b : Bool) : State := (s.setSlu { s.slu with hostShed := b }).settle

/-- CE takes one notice of AU (R167, R169). -/
def auNoticeTaken (s : State) (n : AuNotice) : State :=
  match n with
  | .forceAlarm _ => s.takeAu.withdrawalCause.endOfCeEvent
  | .cleared => s.takeAu.endOfCeEvent

/-- R169: the named kinds whose flags stay set because their causes are present. -/
def keptSet (s : State) (named : Word16) : Word16 := named &&& s.au.flags &&& s.standingCauses

/-- R169: the flags that the request clears. -/
def clearedSet (s : State) (named : Word16) : Word16 := named &&& s.au.flags &&& ~~~s.standingCauses

/-- R170: CE has taken the force-alarm notices of the kinds that CLEAR ALARMS clears, and what AU gave before them, oldest first. A
request that clears no such kind has no notice taken (DEDUCED, safe: log 36). -/
def auNoticesTaken (s : State) (cleared : Word16) : State := (forcedNotices cleared s.notices.au).foldl auNoticeTaken s

/-- R169: the clearing, with a cleared notice when at least one flag was cleared. -/
def clearNamed (s : State) (named : Word16) : State :=
  let t := s.setAu { s.au with flags := s.au.flags &&& ~~~(s.clearedSet named) }
  (if s.clearedSet named = 0 then t else t.giveAu .cleared).settle

/-- R37: STOP CHECK by the phase of the run. -/
def stopRun (s : State) : State :=
  match s.ltx.check.run with
  | none => s
  | some r =>
    match r.phase with
    | .waiting => s.endRun
    | .sending =>
      if s.ltx.attempt.isSome then
        s.setLtx { s.ltx with check := { s.ltx.check with run := some { r with phase := .stopping } } }
      else s.endRun
    | .stopping => s

end State

/-- The mode of a LINE CHECK request (R179). -/
def modeOf (n : Nat) : CheckMode :=
  match n with
  | 0 => .single
  | 1 => .untilFail
  | _ => .continuous

/-- TRANSACTION_START (R173): the falling edge of CSN copies the response slot for MISO. -/
def execTransactionStart (s : State) : Out :=
  if s.portBlind || s.lport.transaction.isSome then .next s
  else .next (s.setLport { s.lport with transaction := some s.lport.slot.bytes })

/-- TRANSACTION_WITHOUT_REQUEST (R173): the slot stays as it was. -/
def execTransactionWithoutRequest (s : State) : Out := if s.transactionEnds then .next s.endTransaction else .next s

/-- UNKNOWN_REQUEST (R174 test 1): answered UNKNOWN with the received code. -/
def execUnknownRequest (code : Byte) (s : State) : Out :=
  if s.transactionEnds && !namesRequest code then .next (s.endTransaction.respond .unknown code []) else .next s

/-- NOP (R173, R175): carried out without replacing the slot. -/
def execNop (s : State) : Out := if s.transactionEnds then .next s.endTransaction else .next s

/-- READ STATUS (R180). -/
def execReadStatus (s : State) : Out :=
  .next (s.answer codeReadStatus true true true fun t => { state := t, code := .done, data := t.statusRecord })

/-- READ SNAPSHOT (R181). -/
def execReadSnapshot (params : List Byte) (s : State) : Out :=
  let ps := portParams params
  let part := s.snap.part (byteAt ps 0) (byteAt ps 1)
  .next (s.answer codeReadSnapshot (2 ≤ ps.length) true part.isSome fun t =>
    { state := t, code := .done, data := t.snap.prefixBytes ++ part.getD [] })

/-- READ CAPTURE (R182). The model's counter of free values advances (log 14). -/
def execReadCapture (s : State) : Out :=
  .next (s.answer codeReadCapture true true true fun t =>
    { state := t.setFreeCount (t.freeCount + 1), code := .done, data := t.captureRecord })

/-- READ COUNTERS (R184): the values are copied, then cleared when the clear flag is 1. -/
def execReadCounters (params : List Byte) (s : State) : Out :=
  let ps := portParams params
  .next (s.answer codeReadCounters (1 ≤ ps.length) true (byteAt ps 0 ≤ 1) fun t =>
    { state := if byteAt ps 0 = 1 then t.setCounters .zero else t, code := .done, data := t.lport.counters.bytes })

/-- CONFIGURE (R176, R177). -/
def execConfigure (params : List Byte) (s : State) : Out :=
  let ps := portParams params
  .next (s.answer codeConfigure (52 ≤ ps.length) s.idleDetached (parseConfig ps).inRange fun t =>
    { state := t.storeConfig (parseConfig ps), code := .done, data := [] })

/-- JOIN (R101, R39): the SINGLE run owned by JOIN begins. -/
def execJoin (s : State) : Out :=
  .next (s.answer codeJoin true s.mayCheck true fun t =>
    { state := t.beginRun .single .join, code := .accepted, data := [] })

/-- LEAVE (R104). -/
def execLeave (s : State) : Out :=
  .next (s.answer codeLeave true s.attached true fun t =>
    { state := t.takeLeaveRequest.endOfCeEvent, code := .accepted, data := [] })

/-- SET TARGET (R116, R178). -/
def execSetTarget (params : List Byte) (s : State) : Out :=
  let ps := portParams params
  .next (s.answer codeSetTarget (4 ≤ ps.length) s.mayTarget
    (wordAt ps 0 ≤ s.ceiling && 1 ≤ wordAt ps 2 && wordAt ps 2 ≤ 4095) fun t =>
    { state := (t.applyTarget (wordAt ps 0) (wordAt ps 2)).endOfCeEvent, code := .done, data := [] })

/-- RE-ENABLE (R160). -/
def execReEnable (s : State) : Out :=
  .next (s.answer codeReEnable true (s.cmon.trip == .latched) true fun t =>
    { state := t.releaseLatch, code := .done, data := [] })

/-- ASSERT SHED (R138). -/
def execAssertShed (s : State) : Out :=
  .next (s.answer codeAssertShed true s.configured true fun t => { state := t.setHostShed true, code := .done, data := [] })

/-- RELEASE SHED (R138). -/
def execReleaseShed (s : State) : Out :=
  .next (s.answer codeReleaseShed true s.configured true fun t => { state := t.setHostShed false, code := .done, data := [] })

/-- CLEAR ALARMS (R169, R170, R183, R185). -/
def execClearAlarms (params : List Byte) (s : State) : Out :=
  let ps := portParams params
  let named := BitVec.ofNat 16 (wordAt ps 0)
  .next (s.answer codeClearAlarms (2 ≤ ps.length) true (kindsOnly (wordAt ps 0)) fun t =>
    let u := t.auNoticesTaken (t.clearedSet named)
    { state := u.clearNamed named, code := .done, data := u16 (u.keptSet named).toNat })

/-- TAKE SNAPSHOT (R121, R181, R183). -/
def execTakeSnapshot (s : State) : Out :=
  .next (s.answer codeTakeSnapshot true s.configured true fun t =>
    { state := t.snapshotTaken.endOfCeEvent, code := .done, data := t.snapshotTaken.snap.prefixBytes })

/-- LINE CHECK (R35, R179). -/
def execLineCheck (params : List Byte) (s : State) : Out :=
  let ps := portParams params
  .next (s.answer codeLineCheck (1 ≤ ps.length) s.mayCheck (byteAt ps 0 ≤ 2) fun t =>
    { state := t.beginRun (modeOf (byteAt ps 0)) .host, code := .accepted, data := [] })

/-- STOP CHECK (R37, R179). -/
def execStopCheck (s : State) : Out :=
  .next (s.answer codeStopCheck true s.mayStop true fun t => { state := t.stopRun, code := .done, data := [] })

end Sys2Proof.Machine
end

