-- ==== Sys2Proof/Machine/Records.lean ====
section
/-! DEFINITION. The Claim Engine takes a record from the head of the Receive Status Queue (R53 to R85), and its peer records
age (R59 to R61). -/

namespace Sys2Proof.Machine

/-- What the head of the queue is to CE: the rows of R53. -/
inductive Head where
  | nothing
  | peerAnnounce (x : Nat) (mm : Bool) (f : AnnounceFields)
  | peerIntent (x : Nat) (mm : Bool) (f : IntentFields)
  | peerSettle (x : Nat) (mm : Bool) (f : SettleFields)
  | peerLeave (x : Nat) (mm : Bool)
  | own (content : Content)
  | duplicate (mm : Bool)
  | error (fragment : Bool)
  | loss
  | check
  deriving DecidableEq, Repr

/-- A GOOD numbered record that is not own, by its sender (R53). -/
def headOfPeer (ownId x : Nat) (mm : Bool) (d : Decoded) : Head :=
  match d with
  | .check => .check
  | .announce f => if x = ownId then .duplicate mm else .peerAnnounce x mm f
  | .intent f => if x = ownId then .duplicate mm else .peerIntent x mm f
  | .settle f => if x = ownId then .duplicate mm else .peerSettle x mm f
  | .leave => if x = ownId then .duplicate mm else .peerLeave x mm

/-- The row of R53 that a frame record falls under (log 11). -/
def headOfFrame (ownId : Nat) (r : FrameRecord) : Head :=
  match r.content with
  | .good mm d =>
    if d = .check then .check
    else if r.own then .own r.content
    else headOfPeer ownId (r.sender.getD 0) mm d
  | .crcError | .symbolError | .tooLong | .formatError => if r.own then .own r.content else .error false
  | .fragment => if r.own then .own r.content else .error true

namespace State

/-- The record that CE can take: none in DETACHED or from an empty queue (R53). -/
def head (s : State) : Head :=
  if s.own.attach = .detached then .nothing
  else
    match s.rsq.records with
    | [] => .nothing
    | .loss _ :: _ => .loss
    | .frame r :: _ => headOfFrame s.ownId r

/-- CE takes the head whole; losses pending are placed (R16, R18). -/
def dropHead (s : State) : State := s.setRsq s.rsq.removeHead

/-- Steps 2 to 4 of R54 for a kind other than LEAVE: the record of X is created or revived, and its fields applied. -/
def updatePeer (s : State) (x : Nat) (apply : Peer → Peer) : State :=
  s.setPeers (putPeer (apply (heardPeer x s.view.peers)) s.view.peers)

/-- R85: a peer's GOOD numbered record without COUNT_MISMATCH confirms an intent in WINDOW. -/
def confirm (s : State) (mm : Bool) : State :=
  if s.own.intentState = .window ∧ mm = false then s.setOwn { s.own with confirmed := true } else s

/-- R67: the digest comparison of a peer's ANNOUNCE. -/
def digestMatches (s : State) (f : AnnounceFields) : Bool := s.lport.digest == some f.digest

/-- R56: what an ANNOUNCE sets in the sender's record. -/
def applyAnnounce (s : State) (f : AnnounceFields) (p : Peer) : Peer :=
  { p with announced := some f.attach, committed := f.committed, floor := some f.floor, profile := some f.profile,
           digestMatch := some (s.digestMatches f), refreshed := true }

/-- R67: CONFIG_MISMATCH. -/
def checkDigest (s : State) (f : AnnounceFields) : State := if s.digestMatches f then s else fire .configMismatch s

/-- R68: PROFILE_MISMATCH, only when the local profile has been in effect for at least P. -/
def checkProfile (s : State) (f : AnnounceFields) : State :=
  if f.profile ≠ s.pfu.profile ∧ s.period ≤ s.pfu.age then fire .profileMismatch s else s

/-- R54 for ANNOUNCE (R56, R67, R68, R79), without the tests that follow every record. -/
def peerAnnounce (s : State) (x : Nat) (mm : Bool) (f : AnnounceFields) : State :=
  let t := (((s.unrefreshIf mm).updatePeer x (s.applyAnnounce f)).checkDigest f).checkProfile f
  (t.setIntents (reconcile x f.openIntent t.view.intents)).recomputeReference

/-- R54 for INTENT (R57, R76). -/
def peerIntent (s : State) (x : Nat) (mm : Bool) (f : IntentFields) : State :=
  let t := (s.unrefreshIf mm).updatePeer x (fun p => { p with committed := f.committedBefore })
  (t.setIntents (removeEntry x t.view.intents ++ [peerEntry x f.number f.delta .intent])).recomputeReference

/-- R54 for SETTLE (R57, R77, R78). R57 says that the granted amount, the outcome and the margin class stay visible in the
snapshot of the intent-list entry; R74 and R183 give an entry no such fields and R77 removes it, so the model shows them in the
last peer settlement alone (DESIGN CHOICE, unsafe: log 40). -/
def peerSettle (s : State) (x : Nat) (mm : Bool) (f : SettleFields) : State :=
  let t := (s.unrefreshIf mm).updatePeer x (fun p => { p with committed := f.committedAfter })
  let matched := settleMatches x f.number t.view.intents
  (t.setView { t.view with
    intents := if matched then removeEntry x t.view.intents else t.view.intents,
    lastSettlement := some { sender := x, settle := f, matched := matched } }).recomputeReference

/-- R54 for LEAVE (R58, R80). -/
def peerLeave (s : State) (x : Nat) (mm : Bool) : State :=
  let t := s.unrefreshIf mm
  (t.setView { t.view with peers := removePeer x t.view.peers, intents := removeEntry x t.view.intents }).recomputeReference

/-- R66, R82: a GOOD own record outside LEAVING. Only the readback of the current intent in OPENING acts beyond the
unrefresh. -/
def ownGood (s : State) (mm : Bool) (d : Decoded) : State :=
  let t := s.unrefreshIf mm
  match d with
  | .intent f =>
    if t.own.intentState = .opening ∧ t.own.current.any (fun c => c.number == f.number) = true then t.takeReadback else t
  | .announce _ | .settle _ | .leave | .check => t

/-- R53, R63, R66, R83: an own record. In LEAVING it is discarded whole. -/
def ownRecord (s : State) (content : Content) : State :=
  if s.own.attach = .leaving then s
  else
    match content with
    | .good mm d => s.ownGood mm d
    | .fragment => s.openingDoubt
    | .crcError | .symbolError | .tooLong | .formatError => s.unrefresh.openingDoubt

/-- R65: DUPLICATE_ID fires and the duplicate timer restarts with 5P. -/
def duplicateRecord (s : State) (mm : Bool) : State :=
  let t := fire .duplicateId (s.unrefreshIf mm)
  t.setView { t.view with duplicate := some (5 * t.period) }

/-- R63: an error record unrefreshes, a FRAGMENT does not. One without the own mark does so in LEAVING too: R53 discards only
own records there, though the first row of R63's table says "own or not, outside LEAVING" (DEDUCED, safe: log 37). -/
def errorRecord (s : State) (fragment : Bool) : State := if fragment then s else s.unrefresh

/-- R60: a LIVE record whose quiet time has reached 5P. -/
def peerLostDue (s : State) (p : Peer) : Bool := p.isLive && 5 * s.period ≤ p.quiet

/-- R61: a LOST record whose quiet time has reached 50P. -/
def peerForgottenDue (s : State) (p : Peer) : Bool := !p.isLive && 50 * s.period ≤ p.quiet

/-- R60: the record goes LOST, its entry is removed and the reference recomputed. -/
def loseRecord (s : State) (p : Peer) : State :=
  ((s.setPeers (putPeer { p with presence := .lost, refreshed := false } s.view.peers)).setIntents
    (removeEntry p.id s.view.intents)).recomputeReference

/-- R61: the record is forgotten. -/
def forgetRecord (s : State) (x : Nat) : State := s.setPeers (removePeer x s.view.peers)

/-- R65: the duplicate timer has run out. -/
def duplicateDue (s : State) : Bool := expired s.view.duplicate

end State

/-- TAKE_ANNOUNCE (R54, R56, R79, R85, R107). -/
def execTakeAnnounce (s : State) : Out :=
  match s.head with
  | .peerAnnounce x mm f => .next ((s.dropHead.peerAnnounce x mm f).confirm mm).endOfCeEvent
  | .nothing | .peerIntent .. | .peerSettle .. | .peerLeave .. | .own _ | .duplicate _ | .error _ | .loss | .check => .next s

/-- TAKE_INTENT (R54, R57, R76, R85, R107). -/
def execTakeIntent (s : State) : Out :=
  match s.head with
  | .peerIntent x mm f => .next ((s.dropHead.peerIntent x mm f).confirm mm).endOfCeEvent
  | .nothing | .peerAnnounce .. | .peerSettle .. | .peerLeave .. | .own _ | .duplicate _ | .error _ | .loss | .check => .next s

/-- TAKE_SETTLE (R54, R57, R77, R78, R85, R107). -/
def execTakeSettle (s : State) : Out :=
  match s.head with
  | .peerSettle x mm f => .next ((s.dropHead.peerSettle x mm f).confirm mm).endOfCeEvent
  | .nothing | .peerAnnounce .. | .peerIntent .. | .peerLeave .. | .own _ | .duplicate _ | .error _ | .loss | .check => .next s

/-- TAKE_LEAVE (R54, R58, R80, R85, R107). -/
def execTakeLeave (s : State) : Out :=
  match s.head with
  | .peerLeave x mm => .next ((s.dropHead.peerLeave x mm).confirm mm).endOfCeEvent
  | .nothing | .peerAnnounce .. | .peerIntent .. | .peerSettle .. | .own _ | .duplicate _ | .error _ | .loss | .check => .next s

/-- TAKE_OWN_RECORD (R66, R81 to R83). -/
def execTakeOwnRecord (s : State) : Out :=
  match s.head with
  | .own content => .next (s.dropHead.ownRecord content).endOfCeEvent
  | .nothing | .peerAnnounce .. | .peerIntent .. | .peerSettle .. | .peerLeave .. | .duplicate _ | .error _ | .loss | .check =>
    .next s

/-- TAKE_DUPLICATE_RECORD (R65). -/
def execTakeDuplicateRecord (s : State) : Out :=
  match s.head with
  | .duplicate mm => .next (s.dropHead.duplicateRecord mm).endOfCeEvent
  | .nothing | .peerAnnounce .. | .peerIntent .. | .peerSettle .. | .peerLeave .. | .own _ | .error _ | .loss | .check => .next s

/-- TAKE_ERROR_RECORD (R63). -/
def execTakeErrorRecord (s : State) : Out :=
  match s.head with
  | .error fragment => .next (s.dropHead.errorRecord fragment).endOfCeEvent
  | .nothing | .peerAnnounce .. | .peerIntent .. | .peerSettle .. | .peerLeave .. | .own _ | .duplicate _ | .loss | .check =>
    .next s

/-- TAKE_LOSS_RECORD (R63, R83). -/
def execTakeLossRecord (s : State) : Out :=
  match s.head with
  | .loss => .next (s.dropHead.unrefresh.openingDoubt).endOfCeEvent
  | .nothing | .peerAnnounce .. | .peerIntent .. | .peerSettle .. | .peerLeave .. | .own _ | .duplicate _ | .error _ | .check =>
    .next s

/-- TAKE_CHECK_RECORD (R47, R53): no effect beyond the taking. -/
def execTakeCheckRecord (s : State) : Out :=
  match s.head with
  | .check => .next s.dropHead.endOfCeEvent
  | .nothing | .peerAnnounce .. | .peerIntent .. | .peerSettle .. | .peerLeave .. | .own _ | .duplicate _ | .error _ | .loss =>
    .next s

/-- PEER_LOST (R60). -/
def execPeerLost (id : Nat) (s : State) : Out :=
  match findPeer id s.view.peers with
  | none => .next s
  | some p => if s.peerLostDue p then .next (s.loseRecord p).endOfCeEvent else .next s

/-- PEER_FORGOTTEN (R61). -/
def execPeerForgotten (id : Nat) (s : State) : Out :=
  match findPeer id s.view.peers with
  | none => .next s
  | some p => if s.peerForgottenDue p then .next (s.forgetRecord id).endOfCeEvent else .next s

/-- DUPLICATE_TIMER_EXPIRY (R65). -/
def execDuplicateTimerExpiry (s : State) : Out :=
  if s.duplicateDue then .next (s.setView { s.view with duplicate := none }).endOfCeEvent else .next s

end Sys2Proof.Machine
end

