-- ==== Sys2Proof/Machine/Reset.lean ====
section
/-! DEFINITION. The full reset, its end, and the port's blind time after it (R127, R140, R173). -/

namespace Sys2Proof.Machine

namespace State

/-- Every block at its full-reset values. The pins keep their levels, and the model's counter and queue stay (log 5). -/
def fullReset (s : State) : State := .inFullReset s.pins (State.sampledIndex s.pins) s.freeCount s.pending

/-- The end of a full reset: the profile in effect takes the sampled index (R127), the recessive time (R24), the age (R127)
and the SHD filter (R140) begin, and the port stays blind for 100 µs (R173). -/
def endFullReset (s : State) : State :=
  (((s.setRst { held := false, blind := some blindTicks }).setPfu
    { s.pfu with profile := State.sampledIndex s.pins, age := 0 }).setLtx { s.ltx with recessive := 0 }).startFilter

/-- R173: the 100 µs have passed. -/
def blindDue (s : State) : Bool := expired s.rst.blind

end State

/-- FULL_RESET (R173): one event for the low level on RESETN, at which the reset values and the blind port begin. A low level of
less than 1 µs is no event (DESIGN CHOICE, unsafe: log 46). -/
def execFullReset (s : State) : Out := .next s.fullReset

/-- END_OF_FULL_RESET (R127, R24, R140, R173). -/
def execEndOfFullReset (s : State) : Out := if s.rst.held then .next s.endFullReset else .next s

/-- RESET_IGNORE_END (R173). -/
def execResetIgnoreEnd (s : State) : Out := if s.blindDue then .next (s.setRst { s.rst with blind := none }) else .next s

end Sys2Proof.Machine
end

