-- ==== Sys2Proof/Machine/Transmit.lean ====
section
/-! DEFINITION. The commands of the Link Transmitter: attempts (R22 to R30), the announce and isolation timers (R31 to R34)
and the repeat timer of the line check (R37). -/

namespace Sys2Proof.Machine

namespace State

/-- R120: the current intent is open on the line. -/
def openOnLine (s : State) : Bool :=
  s.own.intentState == .window || (s.own.intentState == .opening && s.ltx.intentSent)

/-- The attach state that an ANNOUNCE states (R120). ANNOUNCE is in the set in no other attach state (R20, log 20). -/
def announcedState (s : State) : AnnouncedState :=
  match s.own.attach with
  | .joining => .joining
  | .member => .member
  | .listening | .detached | .leaving => .listening

/-- The content of ANNOUNCE (R120). -/
def announceFields (s : State) : AnnounceFields :=
  { attach := s.announcedState, profile := s.pfu.profile, committed := s.own.committed, floor := s.floor,
    digest := s.lport.digest.getD 0,
    openIntent := if s.openOnLine then some (s.currentIntent.number, s.currentIntent.delta) else none }

/-- The resolution that a SETTLE publishes; one exists whenever SETTLE is in the set (R92, log 20). -/
def settleFields (s : State) : SettleFields :=
  s.own.resolution.getD { number := 0, outcome := .withdrawn, margin := none, granted := 0, committedAfter := 0 }

/-- The payload at the start of an attempt (R23). -/
def payloadOf (s : State) (k : FrameKind) : List Byte :=
  match k with
  | .settle => settlePayload s.settleFields
  | .leave => []
  | .intent => intentPayload s.currentIntent
  | .announce => announcePayload s.announceFields
  | .check => checkPayload s.pattern

/-- The line count field (R23): one more than the line count, 0 when it is unset and for CHECK. -/
def countField (s : State) (k : FrameKind) : Nat :=
  match k, s.lrx.lineCount with
  | .check, _ => 0
  | .settle, none | .leave, none | .intent, none | .announce, none => 0
  | .settle, some c | .leave, some c | .intent, some c | .announce, some c => (c + 1) % 65536

/-- The frame that LTX builds at the start of an attempt (R23). -/
def frameOf (s : State) (k : FrameKind) : List Byte := buildFrame k s.ownId (s.countField k) (s.payloadOf k)

/-- R24: the station drives SDL only while its attach state is not DETACHED or while a line check runs. -/
def mayTransmit (s : State) : Bool := s.own.attach != .detached || s.lineCheckRunning

/-- R24: the recessive time has reached a gap; or it reaches it within a quarter of a bit time after SDL turned dominant, so
that the station begins together with the one that turned it. -/
def gapReached (s : State) (gap : Nat) : Bool :=
  gap ≤ s.ltx.recessive || s.pins.sdl.any (fun t => 4 * t ≤ s.bitTime && gap ≤ s.ltx.recessiveBefore + t)

/-- R22, R24: the kind whose attempt begins now, if any. -/
def attemptDue (s : State) : Option FrameKind :=
  if s.ltx.attempt.isSome || !s.mayTransmit || s.rst.held then none
  else
    match s.ltx.pend.candidate with
    | none => none
    | some k => if s.gapReached (k.gapBits * s.bitTime) then some k else none

/-- R23, R24, R38: the attempt of kind k begins. What its SOD does to SDL is told by SDL_DOMINANT, since the line may not follow
the driver (R27, log 4). -/
def beginAttempt (s : State) (k : FrameKind) : State :=
  s.setLtx { s.ltx with
    attempt := some { kind := k, frame := s.frameOf k, beforeRequest := false },
    capture := if k = .check then s.ltx.capture.restart else s.ltx.capture }

/-- The end that an attempt in flight meets before its EOD (R25, R27): LTX releases SDL. -/
def releaseSdl (s : State) : State := s.setLtx { s.ltx with attempt := none }

/-- R37: a CHECK attempt lost while the run is stopping ends the run with no result. -/
def runStopping (s : State) : Bool := s.ltx.check.run.any (fun r => r.phase == .stopping)

/-- R24, R25, R29, R30, R36, R37: the attempt of kind k has lost arbitration: SDL reads dominant. -/
def loseArbitration (s : State) (k : FrameKind) : State :=
  let t := s.releaseSdl.sdlReadsDominant.setCounters { s.lport.counters with lostArb := bump s.lport.counters.lostArb }
  if k = .check ∧ t.runStopping = true then t.endRun else t.attemptFailed k PendEntry.raiseLost

/-- R24, R27, R29, R30, R36: the attempt of kind k has met a transmit fault: SDL reads recessive. -/
def meetFault (s : State) (k : FrameKind) : State :=
  let t := fire .lineFault (s.releaseSdl.sdlReadsRecessive.setCounters { s.lport.counters with txFault := bump s.lport.counters.txFault })
  if k = .check then t.checkFails else t.attemptFailed k PendEntry.raiseFault

/-- R31: the announce timer has run out. -/
def announceDue (s : State) : Bool := expired s.ltx.announce

/-- R33: the isolation timer has reached 3P and the notice of this run is not given. -/
def isolation3PDue (s : State) : Bool := reached s.ltx.isolation (3 * s.period) && !s.ltx.isolationInd

/-- R34: the isolation timer has reached 40P and the notice of this run is not given. -/
def isolation40PDue (s : State) : Bool := reached s.ltx.isolation (40 * s.period) && !s.ltx.rejoinGiven

/-- R37: the repeat timer has run out in the phase waiting. -/
def repeatDue (s : State) : Bool :=
  expired s.ltx.check.repeatTimer && s.ltx.check.run.any (fun r => r.phase == .waiting)

/-- R37: the next check of the run starts. -/
def nextCheck (s : State) : State :=
  (s.setLtx { s.ltx with
    check := { s.ltx.check with run := s.ltx.check.run.map (fun r => { r with phase := .sending }), repeatTimer := none } }).request
    .check

end State

/-- ATTEMPT_START (R22 to R24). -/
def execAttemptStart (s : State) : Out :=
  match s.attemptDue with
  | none => .next s
  | some k => .next (s.beginAttempt k)

/-- LOST_ARBITRATION (R25). -/
def execLostArbitration (s : State) : Out :=
  match s.ltx.attempt with
  | none => .next s
  | some a => .next (s.loseArbitration a.kind)

/-- TRANSMIT_FAULT (R27). -/
def execTransmitFault (s : State) : Out :=
  match s.ltx.attempt with
  | none => .next s
  | some a => .next (s.meetFault a.kind).settle

/-- ANNOUNCE_TIMER_EXPIRY (R31). -/
def execAnnounceTimerExpiry (s : State) : Out :=
  if s.announceDue then
    .next ((s.setLtx { s.ltx with announce := some s.period }).request .announce)
  else .next s

/-- ISOLATION_TIMER_3P (R33). -/
def execIsolationTimer3P (s : State) : Out :=
  if s.isolation3PDue then .next ((s.setLtx { s.ltx with isolationInd := true }).giveLtx .isolated) else .next s

/-- ISOLATION_TIMER_40P (R34). -/
def execIsolationTimer40P (s : State) : Out :=
  if s.isolation40PDue then .next ((s.setLtx { s.ltx with rejoinGiven := true }).giveLtx .rejoin) else .next s

/-- REPEAT_TIMER_EXPIRY (R37). -/
def execRepeatTimerExpiry (s : State) : Out := if s.repeatDue then .next s.nextCheck else .next s

end Sys2Proof.Machine
end

