-- ==== Sys2Proof/Machine/Dispatch.lean ====
section
/-! DEFINITION. One arm per command: the row of spec/opcode_table.json and its meaning. -/

namespace Sys2Proof.Machine

def exec (i : Instr) (s : State) : Host.Outcome State Fault Refusal :=
  match i with
  | .fullReset => Sys2Proof.Machine.execFullReset s
  | .startDelimiter => Sys2Proof.Machine.execStartDelimiter s
  | .malformedStart => Sys2Proof.Machine.execMalformedStart s
  | .violation => Sys2Proof.Machine.execViolation s
  | .tooLong => Sys2Proof.Machine.execTooLong s
  | .endDelimiter => Sys2Proof.Machine.execEndDelimiter s
  | .lineIdle => Sys2Proof.Machine.execLineIdle s
  | .attemptStart => Sys2Proof.Machine.execAttemptStart s
  | .lostArbitration => Sys2Proof.Machine.execLostArbitration s
  | .transmitFault => Sys2Proof.Machine.execTransmitFault s
  | .announceTimerExpiry => Sys2Proof.Machine.execAnnounceTimerExpiry s
  | .isolationTimer3P => Sys2Proof.Machine.execIsolationTimer3P s
  | .isolationTimer40P => Sys2Proof.Machine.execIsolationTimer40P s
  | .repeatTimerExpiry => Sys2Proof.Machine.execRepeatTimerExpiry s
  | .duplicateTimerExpiry => Sys2Proof.Machine.execDuplicateTimerExpiry s
  | .peerLost id => Sys2Proof.Machine.execPeerLost id s
  | .peerForgotten id => Sys2Proof.Machine.execPeerForgotten id s
  | .takeAnnounce => Sys2Proof.Machine.execTakeAnnounce s
  | .takeIntent => Sys2Proof.Machine.execTakeIntent s
  | .takeSettle => Sys2Proof.Machine.execTakeSettle s
  | .takeLeave => Sys2Proof.Machine.execTakeLeave s
  | .takeOwnRecord => Sys2Proof.Machine.execTakeOwnRecord s
  | .takeDuplicateRecord => Sys2Proof.Machine.execTakeDuplicateRecord s
  | .takeErrorRecord => Sys2Proof.Machine.execTakeErrorRecord s
  | .takeLossRecord => Sys2Proof.Machine.execTakeLossRecord s
  | .takeCheckRecord => Sys2Proof.Machine.execTakeCheckRecord s
  | .holdWindowExpiry => Sys2Proof.Machine.execHoldWindowExpiry s
  | .retryTimerExpiry => Sys2Proof.Machine.execRetryTimerExpiry s
  | .listenTimerExpiry => Sys2Proof.Machine.execListenTimerExpiry s
  | .sentNotice => Sys2Proof.Machine.execSentNotice s
  | .droppedNotice => Sys2Proof.Machine.execDroppedNotice s
  | .recalledNotice => Sys2Proof.Machine.execRecalledNotice s
  | .isolatedNotice => Sys2Proof.Machine.execIsolatedNotice s
  | .isolationEndNotice => Sys2Proof.Machine.execIsolationEndNotice s
  | .rejoinNotice => Sys2Proof.Machine.execRejoinNotice s
  | .checkPassed => Sys2Proof.Machine.execCheckPassed s
  | .checkFailed => Sys2Proof.Machine.execCheckFailed s
  | .shedStartNotice => Sys2Proof.Machine.execShedStartNotice s
  | .shedEndNotice => Sys2Proof.Machine.execShedEndNotice s
  | .forceAlarmNotice => Sys2Proof.Machine.execForceAlarmNotice s
  | .clearedNotice => Sys2Proof.Machine.execClearedNotice s
  | .pselChange psel0 psel1 psel2 => Sys2Proof.Machine.execPselChange psel0 psel1 psel2 s
  | .settleTimerExpiry => Sys2Proof.Machine.execSettleTimerExpiry s
  | .profileChangeEvent => Sys2Proof.Machine.execProfileChangeEvent s
  | .shdObservedAsserted => Sys2Proof.Machine.execShdObservedAsserted s
  | .shdObservedReleased => Sys2Proof.Machine.execShdObservedReleased s
  | .recoveryTimerExpiry => Sys2Proof.Machine.execRecoveryTimerExpiry s
  | .pwmeEdge rising => Sys2Proof.Machine.execPwmeEdge rising s
  | .blankingEnd => Sys2Proof.Machine.execBlankingEnd s
  | .senseChange level => Sys2Proof.Machine.execSenseChange level s
  | .trip => Sys2Proof.Machine.execTrip s
  | .tripHoldEnd => Sys2Proof.Machine.execTripHoldEnd s
  | .cleanTimerExpiry => Sys2Proof.Machine.execCleanTimerExpiry s
  | .followTimerExpiry => Sys2Proof.Machine.execFollowTimerExpiry s
  | .transactionStart => Sys2Proof.Machine.execTransactionStart s
  | .unknownRequest code => Sys2Proof.Machine.execUnknownRequest code s
  | .nop => Sys2Proof.Machine.execNop s
  | .readStatus => Sys2Proof.Machine.execReadStatus s
  | .readSnapshot params => Sys2Proof.Machine.execReadSnapshot params s
  | .readCapture => Sys2Proof.Machine.execReadCapture s
  | .readCounters params => Sys2Proof.Machine.execReadCounters params s
  | .configure params => Sys2Proof.Machine.execConfigure params s
  | .join => Sys2Proof.Machine.execJoin s
  | .leave => Sys2Proof.Machine.execLeave s
  | .setTarget params => Sys2Proof.Machine.execSetTarget params s
  | .reEnable => Sys2Proof.Machine.execReEnable s
  | .assertShed => Sys2Proof.Machine.execAssertShed s
  | .releaseShed => Sys2Proof.Machine.execReleaseShed s
  | .clearAlarms params => Sys2Proof.Machine.execClearAlarms params s
  | .takeSnapshot => Sys2Proof.Machine.execTakeSnapshot s
  | .lineCheck params => Sys2Proof.Machine.execLineCheck params s
  | .stopCheck => Sys2Proof.Machine.execStopCheck s
  | .wholeByte b => Sys2Proof.Machine.execWholeByte b s
  | .sdlDominant => Sys2Proof.Machine.execSdlDominant s
  | .shdLevelChange level => Sys2Proof.Machine.execShdLevelChange level s
  | .endOfFullReset => Sys2Proof.Machine.execEndOfFullReset s
  | .resetIgnoreEnd => Sys2Proof.Machine.execResetIgnoreEnd s
  | .transactionWithoutRequest => Sys2Proof.Machine.execTransactionWithoutRequest s

end Sys2Proof.Machine
end

