-- ==== Sys2Proof/Machine/Time.lean ====
section
/-! DEFINITION. Time and the block's own events, for a step on an empty queue (log 1, log 2): what one unit of 0.25 µs does to
every timer, and which events of the block's own units are due. -/

namespace Sys2Proof.Machine

/-- A peer record's quiet time after one unit; it never goes beyond 50P (R59). -/
def Peer.age (limit : Nat) (p : Peer) : Peer := { p with quiet := min limit (p.quiet + 1) }

namespace State

/-- LTX's timers (R24, R31, R33, R37). -/
def tickLtx (s : State) : Ltx :=
  { s.ltx with
    recessive := if s.pins.sdl.isNone then s.ltx.recessive + 1 else s.ltx.recessive, announce := countDown s.ltx.announce,
    isolation := countUp s.ltx.isolation,
    check := { s.ltx.check with repeatTimer := countDown s.ltx.check.repeatTimer } }

/-- How long ago the last dominant level on SDL began (R24). -/
def tickPins (s : State) : Pins := { s.pins with sdl := countUp s.pins.sdl }

/-- How long ago the level began that may open a frame (R5). -/
def tickLrx (s : State) : Lrx :=
  match s.lrx.state with
  | .starting age => { s.lrx with state := .starting (age + 1) }
  | .disabled | .hunt _ | .receiving _ | .discard => s.lrx

/-- CE's timers (R65, R84, R102, R111) and the peers' quiet times (R59). -/
def tickOwn (s : State) : OwnContext :=
  { s.own with hold := countDown s.own.hold, retry := countDown s.own.retry, listen := countDown s.own.listen }

def tickView (s : State) : View :=
  { s.view with peers := s.view.peers.map (Peer.age (50 * s.period)), duplicate := countDown s.view.duplicate }

/-- The settle timer and the age, which saturates (R126, R127). -/
def tickPfu (s : State) : Pfu := { s.pfu with settle := countUp s.pfu.settle, age := min ageMax (s.pfu.age + 1) }

/-- The filter of SHD and the recovery timer (R140, R142). -/
def tickSlu (s : State) : Slu := { s.slu with filter := countUp s.slu.filter, recovery := countDown s.slu.recovery }

/-- CMON's timers and the qualify count, which stops at the qualify time (R152 to R158). -/
def tickCmon (s : State) : Cmon :=
  { s.cmon with
    hold := countDown s.cmon.hold, clean := countDown s.cmon.clean, follow := countDown s.cmon.follow,
    blanking := countDown s.cmon.blanking,
    qualify := if s.qualifying then min s.qualifyTime (s.cmon.qualify + 1) else s.cmon.qualify }

/-- One unit of 0.25 µs passes. While a full reset lasts nothing is measured. -/
def tick (s : State) : State :=
  if s.rst.held then s
  else
    ((((((((s.setRst { s.rst with blind := countDown s.rst.blind }).setPins s.tickPins).setLrx s.tickLrx).setLtx
      s.tickLtx).setOwn s.tickOwn).setView s.tickView).setPfu s.tickPfu).setSlu s.tickSlu).setCmon s.tickCmon

/-- A command, when its occasion is present. -/
def offer (b : Bool) (i : Instr) : List Instr := if b then [i] else []

/-- The peers whose quiet time has run out (R60, R61). -/
def duePeers (s : State) : List Instr :=
  s.view.peers.flatMap fun p => offer (s.peerLostDue p) (.peerLost p.id) ++ offer (s.peerForgottenDue p) (.peerForgotten p.id)

/-- The events whose moment has come: no time passes before they have happened. LINE_IDLE and ATTEMPT_START can be due at once,
where a run begins on an idle line (R35): in either order LRX sees idle before the station's own SOD (`seesIdle`, log 39). -/
def dueEvents (s : State) : List Instr :=
  offer s.attemptDue.isSome .attemptStart ++ offer s.announceDue .announceTimerExpiry ++
    offer s.isolation3PDue .isolationTimer3P ++ offer s.isolation40PDue .isolationTimer40P ++
    offer s.repeatDue .repeatTimerExpiry ++ offer s.duplicateDue .duplicateTimerExpiry ++
    offer s.holdDue .holdWindowExpiry ++ offer s.retryDue .retryTimerExpiry ++ offer s.listenDue .listenTimerExpiry ++
    offer s.settleDue .settleTimerExpiry ++ offer s.assertedDue .shdObservedAsserted ++
    offer s.releasedDue .shdObservedReleased ++ offer s.recoveryDue .recoveryTimerExpiry ++
    offer s.blankingDue .blankingEnd ++ offer s.tripDue .trip ++ offer s.holdEndDue .tripHoldEnd ++
    offer s.cleanDue .cleanTimerExpiry ++ offer s.followDue .followTimerExpiry ++ offer s.blindDue .resetIgnoreEnd ++
    offer s.lineIdleDue .lineIdle ++ s.duePeers

/-- The command by which CE takes the head of the queue. -/
def takeHead (s : State) : List Instr :=
  match s.head with
  | .nothing => []
  | .peerAnnounce .. => [.takeAnnounce]
  | .peerIntent .. => [.takeIntent]
  | .peerSettle .. => [.takeSettle]
  | .peerLeave .. => [.takeLeave]
  | .own _ => [.takeOwnRecord]
  | .duplicate _ => [.takeDuplicateRecord]
  | .error _ => [.takeErrorRecord]
  | .loss => [.takeLossRecord]
  | .check => [.takeCheckRecord]

/-- The command by which CE takes the oldest notice of LTX. -/
def takeLtxNotice (s : State) : List Instr :=
  match s.notices.ltx with
  | [] => []
  | .sent _ :: _ => [.sentNotice]
  | .dropped _ :: _ => [.droppedNotice]
  | .recalled :: _ => [.recalledNotice]
  | .isolated :: _ => [.isolatedNotice]
  | .isolationEnd :: _ => [.isolationEndNotice]
  | .rejoin :: _ => [.rejoinNotice]
  | .checkPassed :: _ => [.checkPassed]
  | .checkFailed :: _ => [.checkFailed]

/-- The command by which CE takes the oldest notice of SLU; a shed-end notice waits for an observed assertion that is due
(R142, log 31). -/
def takeSluNotice (s : State) : List Instr :=
  match s.notices.slu with
  | [] => []
  | .shedStart :: _ => [.shedStartNotice]
  | .shedEnd :: _ => offer (!s.assertedDue) .shedEndNotice

/-- The command by which CE takes the oldest notice of AU. -/
def takeAuNotice (s : State) : List Instr :=
  match s.notices.au with
  | [] => []
  | .forceAlarm _ :: _ => [.forceAlarmNotice]
  | .cleared :: _ => [.clearedNotice]

/-- What CE may take now, at its own pace. -/
def ceTakes (s : State) : List Instr :=
  s.takeHead ++ s.takeLtxNotice ++ s.takeSluNotice ++ s.takeAuNotice ++ offer (!s.notices.pfu.isEmpty) .profileChangeEvent

/-- One of several commands, by a free choice; none stands for letting time pass, which is open only while nothing is due. -/
def chooseEvent (choice : Nat) (due takes : List Instr) : Option Instr :=
  if due.isEmpty then takes[choice % (takes.length + 1)]? else (due ++ takes)[choice % (due.length + takes.length)]?

end State

end Sys2Proof.Machine
end

