-- ==== Sys2Proof/Machine/Own.lean ====
section
/-! DEFINITION. A step on an empty queue (log 1, log 2): an event of the block's own that is due, or a record or notice that
CE takes, or one unit of time. -/

namespace Sys2Proof.Machine

namespace State

/-- The block's next own event, if it takes one now. -/
def nextEvent (s : State) : Option Instr := chooseEvent (Config.freeChoice s.freeCount) s.dueEvents s.ceTakes

end State

/-- The block moves by itself. The counter of free values advances when a choice was consulted. -/
def ownStep (s : State) : Out :=
  if s.dueEvents.isEmpty && s.ceTakes.isEmpty then .next s.tick
  else
    match s.nextEvent with
    | none => .next (s.setFreeCount (s.freeCount + 1)).tick
    | some i => exec i (s.setFreeCount (s.freeCount + 1))

end Sys2Proof.Machine
end

