-- ==== Sys2Proof/Machine/Signalling.lean ====
section
/-! DEFINITION. SDL below the commands (R1 to R3, R5 to R7, R26): levels, cells, delimiters, the cells of a whole frame, how a
run of cells reads as commands of LRX, and which of two contending frames wins. The commands of Link.lean stand on this
coding; step does not run it, since no row of the table is a cell (log 4). -/

namespace Sys2Proof.Machine

/-- R1: a line is dominant while at least one station pulls it low. -/
def wired (drives : List Level) : Level := if drives.contains .dominant then .dominant else .recessive

/-- A cell: the levels of its first and its second half (R2). -/
abbrev Cell := Level × Level

/-- The cell dominant in both halves, which opens a delimiter (R3). -/
def dominantCell : Cell := (.dominant, .dominant)

/-- The cell recessive in both halves (R3). -/
def recessiveCell : Cell := (.recessive, .recessive)

/-- R2: data bit 1 is recessive then dominant, data bit 0 dominant then recessive. -/
def bitCell (b : Bool) : Cell := if b then (.recessive, .dominant) else (.dominant, .recessive)

/-- R2: the data bit of a cell; none where its halves are equal. -/
def cellBit (c : Cell) : Option Bool :=
  match c with
  | (.recessive, .dominant) => some true
  | (.dominant, .recessive) => some false
  | (.dominant, .dominant) | (.recessive, .recessive) => none

/-- The eight cells of a byte, least significant bit first (R2). -/
def byteCells (b : Byte) : List Cell := (bitsLsbFirst b).map bitCell

/-- The start delimiter (R3). -/
def sodCells : List Cell := [dominantCell, recessiveCell]

/-- The end delimiter (R3): complete at the end of its second recessive cell. -/
def eodCells : List Cell := [dominantCell, recessiveCell, recessiveCell]

/-- A frame on the line, from the first dominant half of its SOD to the completion of its EOD (R3). -/
def frameCells (bs : List Byte) : List Cell := sodCells ++ bs.flatMap byteCells ++ eodCells

/-- The byte of eight data bits, least significant first. -/
def byteOfBits (bits : List Bool) : Byte := BitVec.ofNat 8 (bits.foldr (fun b n => b.toNat + 2 * n) 0)

/-- The cells of a frame after its SOD, as commands (R2, R6, R7). `count` whole bytes and the bits of a partial byte have been
received. -/
def readCells : List Cell → Nat → List Bool → List Instr
  | [], _, _ => []
  | c :: cs, count, bits =>
    match cellBit c with
    | some b =>
      if bits.length < 7 then readCells cs count (bits ++ [b])
      else if count < 24 then .wholeByte (byteOfBits (bits ++ [b])) :: readCells cs (count + 1) []
      else [.tooLong]
    | none =>
      if c = dominantCell ∧ bits = [] then
        match cs with
        | c1 :: c2 :: _ => if c1 = recessiveCell ∧ c2 = recessiveCell then [.endDelimiter] else [.violation]
        | [c1] => if c1 = recessiveCell then [] else [.violation]
        | [] => []
      else [.violation]

/-- The cells of a frame start after idle, as commands (R3, R5). -/
def readStart : List Cell → List Instr
  | c1 :: c2 :: cs => if c1 = dominantCell ∧ c2 = recessiveCell then .startDelimiter :: readCells cs 0 [] else [.malformedStart]
  | [c1] => if c1 = dominantCell then [] else [.malformedStart]
  | [] => []

/-- The data bits of a byte string in sending order (R2). -/
def bitsSent (bs : List Byte) : List Bool := bs.flatMap bitsLsbFirst

/-- R26: at the first data bit in which two contending frames differ, the frame sending 0 wins. None while they agree. -/
def firstWins : List Bool → List Bool → Option Bool
  | a :: as, b :: bs => if a = b then firstWins as bs else some (!a)
  | [], _ => none
  | _ :: _, [] => none

end Sys2Proof.Machine
end

