-- ==== Sys2Proof/Safety.lean ====
section
/-! DEFINITION. What counts as a sound state of the station, in the terms the statements use. Each structure is an invariant:
it holds at reset and every step keeps it. -/

namespace Sys2Proof.Machine

/-- Every output agrees with the state it follows: R137, R148, R150, R152, R154, R166. -/
structure OutputsAgree (s : State) : Prop where
  reference : s.oc.effRef = s.referenceClaim
  gate : s.oc.gate = s.gateOf
  alert : s.au.alert = s.alertOf
  drive : s.slu.driven = s.drivesShd
  noGrace : s.own.attach ≠ .member → s.cmon.grace = 0 ∧ s.cmon.follow = none
  notEvaluated : s.evaluated = false → s.cmon.qualify = 0 ∧ s.cmon.armed = true ∧ s.cmon.reached = false

/-- A LOSS record. -/
def QueueRecord.isLoss : QueueRecord → Bool
  | .loss _ => true
  | .frame _ => false

/-- The Receive Status Queue (R16 to R18). -/
structure QueueSound (q : Rsq) : Prop where
  atMostEight : q.records.length ≤ 8
  pendingOnlyWhenFull : q.pendingLoss ≠ 0 → q.records.length = 8
  pendingRange : q.pendingLoss ≤ 255
  lostRange : ∀ n, .loss n ∈ q.records → 1 ≤ n ∧ n ≤ 255
  lossApart : q.records.IsChain (fun a b => a.isLoss = true → b.isLoss = false)

/-- The counts of the transmit pending set (R20, R25, R27, R29): a kind that reaches its limit has been dropped, CHECK
excepted. -/
structure CountsSound (p : PendingSet) : Prop where
  lost : ∀ k e, p.get k = some e → e.lost ≤ 16 ∧ (k ≠ .check → e.lost ≤ 15)
  fault : ∀ k e, p.get k = some e → e.fault ≤ 3

/-- The fields of an intent fit their widths (R45, R74, R98). -/
def IntentFields.fits (f : IntentFields) : Prop :=
  f.number ≤ 255 ∧ f.delta ≤ 4095 ∧ f.deltaMin ≤ 4095 ∧ f.committedBefore ≤ 4095

/-- The fields of a settlement fit their widths (R46, R78, R92). -/
def SettleFields.fits (f : SettleFields) : Prop := f.number ≤ 255 ∧ f.granted ≤ 4095 ∧ f.committedAfter ≤ 4095

/-- The fields of an announcement fit their widths (R44, R56). -/
def AnnounceFields.fits (f : AnnounceFields) : Prop :=
  f.profile ≤ 7 ∧ f.committed ≤ 4095 ∧ f.floor ≤ 4095 ∧ f.digest ≤ 65535 ∧
    ∀ n d, f.openIntent = some (n, d) → n ≤ 255 ∧ d ≤ 4095

/-- The decoded fields of a GOOD record fit their widths (R48, R49). -/
def Decoded.fits : Decoded → Prop
  | .announce f => f.fits
  | .intent f => f.fits
  | .settle f => f.fits
  | .leave | .check => True

/-- The fields of a record of the queue fit their widths (R11, R18). -/
def QueueRecord.fits : QueueRecord → Prop
  | .loss n => n ≤ 255
  | .frame r => r.length ≤ 25 ∧ (∀ x, r.sender = some x → x ≤ 31) ∧ ∀ mm d, r.content = .good mm d → d.fits

/-- The fields of a peer record fit their widths (R52). -/
def Peer.fits (p : Peer) : Prop :=
  p.id ≤ 31 ∧ p.committed ≤ 4095 ∧ (∀ f, p.floor = some f → f ≤ 4095) ∧ ∀ i, p.profile = some i → i ≤ 7

/-- The fields of an intent-list entry fit their widths (R74). -/
def Entry.fits (e : Entry) : Prop := e.station ≤ 31 ∧ e.number ≤ 255 ∧ e.delta ≤ 4095

/-- The last peer settlement fits its widths (R78). -/
def PeerSettlement.fits (p : PeerSettlement) : Prop := p.sender ≤ 31 ∧ p.settle.fits

/-- The fields of the own claim context fit their widths (R98). -/
def OwnContext.fits (c : OwnContext) : Prop :=
  c.committed ≤ 4095 ∧ c.target ≤ 4095 ∧ c.minStep ≤ 4095 ∧ c.nextNumber ≤ 255 ∧ (∀ f, c.current = some f → f.fits) ∧
    (∀ r, c.resolution = some r → r.fits) ∧ c.lastOutcome.granted ≤ 4095

/-- Every register that holds a number stays in the width that the spec gives it (R11, R14, R17, R36, R38, R44 to R46, R50, R52,
R69, R74, R78, R98, R121, R122, R124 to R127, R148, R152, R158, R164, R176, R184). -/
structure WidthsKept (s : State) : Prop where
  good : s.lport.counters.good ≤ 65535
  error : s.lport.counters.error ≤ 65535
  lost : s.lport.counters.lost ≤ 65535
  mismatch : s.lport.counters.mismatch ≤ 65535
  lostArb : s.lport.counters.lostArb ≤ 65535
  txFault : s.lport.counters.txFault ≤ 65535
  dropped : s.lport.counters.dropped ≤ 65535
  trips : s.lport.counters.trips ≤ 65535
  budgets : ∀ c, s.lport.config = some c → (∀ b ∈ c.budgets, b ≤ 65535) ∧ ∀ w ∈ c.pattern, w ≤ 65535
  digest : ∀ d, s.lport.digest = some d → d ≤ 65535
  lineCount : ∀ c, s.lrx.lineCount = some c → c ≤ 65535
  records : ∀ r ∈ s.rsq.records, r.fits
  pendingLoss : s.rsq.pendingLoss ≤ 255
  failCounter : s.ltx.check.failCounter ≤ 255
  captureSlots : s.ltx.capture.slots.length = 8 ∧ ∀ w, some w ∈ s.ltx.capture.slots → w ≤ 65535
  captureIndex : ∀ k, s.ltx.capture.index = some k → k ≤ 7
  own : s.own.fits
  peers : ∀ p ∈ s.view.peers, p.fits
  intents : ∀ e ∈ s.view.intents, e.fits
  reference : ∀ x, s.view.reference = some x → x ≤ 31
  settlement : ∀ p, s.view.lastSettlement = some p → p.fits
  generation : s.snap.generation ≤ 255
  snapOwn : ∀ o, s.snap.own = some o → o.stationId ≤ 31 ∧ o.floor ≤ 4095 ∧ o.context.fits
  snapPeers : ∀ p ∈ s.snap.peers, p.fits
  snapIntents : ∀ e ∈ s.snap.intents, e.fits
  snapSettlement : ∀ p, s.snap.settlement = some p → p.fits
  table : ∀ t, s.pfu.table = some t → ∀ b ∈ t, b ≤ 65535
  budget : s.pfu.budget ≤ 65535
  profile : s.pfu.profile ≤ 7
  age : s.pfu.age ≤ ageMax
  effRef : s.oc.effRef ≤ 4095
  grace : s.cmon.grace ≤ 4095
  consecutive : s.cmon.consecutive ≤ 255
  flags : s.au.flags.toNat < 2048

/-- The line check and the receiver agree with the attach state (R4, R13, R15, R19, R20, R24, R35, R37, R39, R53). That a JOIN
run which has passed is held until CE takes the notice, once, is the model's choice (`passHeld`, `passOnce`: log 9). -/
structure LinkSound (s : State) : Prop where
  bytes : ∀ bs, s.lrx.state = .receiving bs → bs.length ≤ 24
  runDetached : s.ltx.check.run.isSome = true → s.own.attach = .detached
  checkOnly : s.lrx.checkOnly = true ↔ s.ltx.check.run.isSome = true ∧ .checkPassed ∉ s.notices.ltx
  disabled : s.lrx.state = .disabled ↔ s.own.attach = .detached ∧ s.ltx.check.run = none
  queueEmpty : s.own.attach = .detached → .checkPassed ∉ s.notices.ltx → s.rsq = .atReset ∧ s.lrx.lineCount = none
  pendingDetached : s.own.attach = .detached →
    s.ltx.pend.settle = none ∧ s.ltx.pend.leave = none ∧ s.ltx.pend.intent = none ∧ s.ltx.pend.announce = none
  pendingLeaving : s.own.attach = .leaving →
    s.ltx.pend.settle = none ∧ s.ltx.pend.intent = none ∧ s.ltx.pend.announce = none
  pendingCheck : s.ltx.pend.check.isSome = true → s.ltx.check.run.isSome = true
  attemptDetached : s.own.attach = .detached →
    (s.ltx.check.run = none → s.ltx.attempt = none) ∧ ∀ a, s.ltx.attempt = some a → a.kind = .check
  waitingQuiet : ∀ r, s.ltx.check.run = some r → r.phase = .waiting → s.ltx.attempt = none ∧ s.ltx.pend.check = none
  repeatTimer : s.ltx.check.repeatTimer.isSome = true ↔ s.ltx.check.run.any (fun r => r.phase == .waiting) = true
  joinRun : s.ltx.check.owner = some .join → ∀ r, s.ltx.check.run = some r → r = { mode := .single, phase := .sending }
  passHeld : .checkPassed ∈ s.notices.ltx →
    s.ltx.check.run.isSome = true ∧ s.ltx.check.owner = some .join ∧ s.ltx.attempt = none ∧ s.ltx.pend.check = none
  passOnce : s.notices.ltx.count .checkPassed ≤ 1

/-- Each timer and each field that may be absent is there exactly when the table of R98 says (R31, R33, R84, R98, R102, R111,
R156), and the marks are clear where R83, R92, R109, R114 and R115 leave them clear. That the withdraw mark is clear after a
resolution which it did not cause is the model's reading (`openMarks`: log 24). -/
structure TimersAgree (s : State) : Prop where
  current : s.own.current.isSome = true ↔
    s.own.intentState = .opening ∨ s.own.intentState = .window ∨ s.own.intentState = .settling
  hold : s.own.hold.isSome = true ↔ s.own.intentState = .window
  retry : s.own.retry.isSome = true ↔ s.own.intentState = .retryWait
  listen : s.own.listen.isSome = true ↔ s.own.attach = .listening
  announce : s.ltx.announce.isSome = s.attached
  isolation : s.ltx.isolation.isSome = s.attached
  settling : s.own.intentState = .settling → s.own.resolution.isSome = true
  idle : s.own.attach ≠ .joining → s.own.attach ≠ .member → s.own.intentState = .idle
  openMarks : s.own.intentState ≠ .opening → s.own.withdrawMark = false ∧ s.own.sentMark = false ∧ s.own.doubtMark = false
  confirmed : s.own.confirmed = true → s.own.intentState = .window
  tripHold : s.cmon.hold.isSome = true ↔ s.cmon.trip = .hold
  isolated : s.own.isolated = true → s.attached = true

/-- The own claim lies where R99 puts it, and an open intent keeps it there (R99, R103, R108, R116, R176). -/
structure ClaimSound (s : State) : Prop where
  inRange : ∀ c, s.lport.config = some c → c.inRange = true
  configured : s.own.attach ≠ .detached ∨ s.ltx.check.run.isSome = true ∨ .checkPassed ∈ s.notices.ltx → s.configured = true
  noClaim : s.own.attach ≠ .member → s.own.committed = 0
  between : s.own.attach = .member → s.floor ≤ s.own.committed ∧ s.own.committed ≤ s.ceiling
  target : s.own.target ≤ s.ceiling
  minStep : 1 ≤ s.own.minStep
  openAttach : s.own.intentState ≠ .idle → s.own.attach = .joining ∨ s.own.attach = .member
  openIntent : s.own.intentState = .opening ∨ s.own.intentState = .window →
    ∃ f, s.own.current = some f ∧ 1 ≤ f.deltaMin ∧ f.deltaMin ≤ f.delta ∧ s.own.committed + f.delta ≤ s.ceiling
  joinIntent : s.own.attach = .joining → s.own.intentState = .opening ∨ s.own.intentState = .window →
    ∀ f, s.own.current = some f → f.delta = s.floor ∧ f.deltaMin = s.floor

/-- The sender that a GOOD record names is a station ID (R48 rule 4, R41). -/
def QueueRecord.senderOk : QueueRecord → Prop
  | .loss _ => True
  | .frame r => ∀ mm d, r.content = .good mm d → ∃ x, r.sender = some x ∧ 1 ≤ x ∧ x ≤ 31

/-- The peer table, the intent list and the reference station (R52, R53, R69, R74). -/
structure ViewSound (s : State) : Prop where
  senders : ∀ r ∈ s.rsq.records, r.senderOk
  ascending : s.view.peers.Pairwise (fun p q => p.id < q.id)
  peerIds : ∀ p ∈ s.view.peers, 1 ≤ p.id ∧ p.id ≤ 31 ∧ p.id ≠ s.ownId
  lostUnrefreshed : ∀ p ∈ s.view.peers, p.presence = .lost → p.refreshed = false
  oneEntry : s.view.intents.Pairwise (fun a b => a.station ≠ b.station)
  peerEntries : ∀ e ∈ s.view.intents, e.own = false → ∃ p ∈ s.view.peers, p.id = e.station ∧ p.presence = .live
  ownEntries : ∀ e ∈ s.view.intents, e.own = true → e.station = s.ownId
  ownEntry : (∃ e ∈ s.view.intents, e.own = true) ↔ s.own.intentState = .window
  detached : s.own.attach = .detached → s.view.peers = [] ∧ s.view.intents = []
  reference : s.view.reference = referenceOf s.ownId s.view.peers
  idle : s.own.intentState ≠ .idle → s.own.attach = .joining ∨ s.own.attach = .member

end Sys2Proof.Machine
end

