-- ==== Sys2Proof/Certificates/Slice0/Obligations.lean ====
section
/-! DEFINITION. The statements for the provers: what each command does (its next state, written out), what the shared
operations do, and the invariants that every step keeps. A result ends in `settle` where the outputs follow the state
(`Obligations.OutputsSettle`), and in `endOfCeEvent` where the Claim Engine has taken an event
(`Obligations.EndOfCeEvent`). -/

section

open Sys2Proof Sys2Proof.Machine

/-! ### The block as a whole -/

/-- The command at the front of the queue runs on the queue's rest. -/
def Obligations.StepTakesFrontCommand : Prop :=
  ∀ (c : Instr) (rest : List Instr) (s : State),
    step { s with pending := c :: rest } = exec c { s with pending := rest }

/-- Nothing stops the block, and no command touches the queue of commands waiting. -/
def Obligations.EveryCommandAnswersNext : Prop :=
  (∀ (c : Instr) (s : State), ∃ t, exec c s = .next t ∧ t.pending = s.pending) ∧ ∀ s : State, ∃ t, step s = .next t

/-- FULL_RESET, END_OF_FULL_RESET and RESET_IGNORE_END. Full reset leaves every element at its value in the full-reset column
(R19, R40, R73, R97, R123, R136, R147, R163, R172, R186); at its end the profile in effect takes the sampled index (R127), the
recessive time and the SHD filter begin (R24, R140), and the port is blind for 100 µs (R173). The model's choices: the station is
held in reset with its pins as they were, and State.reset itself (log 5, log 6); the last outcome NONE has granted amount 0 and no
margin class (log 33, unsafe); no notice waits for CE (log 8); no recessive time has been ended (log 4); the low level on RESETN is
one event (log 46, unsafe). -/
def Obligations.FullReset : Prop :=
  (exec .fullReset State.reset = .next State.reset ∧
  ∀ s : State, ∃ t, exec .fullReset s = .next t ∧
    t.rst = { held := true, blind := none } ∧ t.pins = s.pins ∧ t.pending = s.pending ∧ t.freeCount = s.freeCount ∧
    t.lrx = { state := .disabled, checkOnly := false, lineCount := none } ∧ t.rsq = { records := [], pendingLoss := 0 } ∧
    (∀ k, t.ltx.pend.get k = none) ∧ t.ltx.recallHeld = false ∧ t.ltx.attempt = none ∧ t.ltx.intentSent = false ∧
    t.ltx.recessive = 0 ∧ t.ltx.recessiveBefore = 0 ∧ t.ltx.edgeUntold = false ∧ t.ltx.announce = none ∧ t.ltx.isolation = none ∧
    t.ltx.isolationInd = false ∧ t.ltx.rejoinGiven = false ∧
    t.ltx.check = { run := none, owner := none, lastResult := none, failCounter := 0, repeatTimer := none } ∧
    t.ltx.capture = { slots := List.replicate 8 none, index := none, frozen := false } ∧
    t.own = { attach := .detached, intentState := .idle, committed := 0, target := 0, minStep := 1, nextNumber := 0,
              current := none, withdrawMark := false, sentMark := false, doubtMark := false, confirmed := false,
              hold := none, resolution := none, retry := none, listen := none, isolated := false,
              lastOutcome := { outcome := none, granted := 0, margin := none } } ∧
    t.view = { peers := [], intents := [], reference := none, duplicate := none, lastSettlement := none } ∧
    t.snap = { own := none, peers := [], intents := [], settlement := none, generation := 0 } ∧
    t.pfu.table = none ∧ t.pfu.settle = none ∧ t.pfu.age = 0 ∧ t.pfu.budget = 0 ∧
    t.slu = { hostShed := false, driven := false, observed := .released, filter := none, recovery := none } ∧
    t.oc = { effRef := 0, gate := false } ∧
    t.cmon = { trip := .clear, hold := none, holdEdge := false, consecutive := 0, clean := none, grace := 0, follow := none
               qualify := 0, armed := true, reached := false, blanking := none } ∧
    t.au = { flags := 0, notifyMask := 0x07FF, forceMask := 0x0010, lineMask := 0x0004, alert := false } ∧
    t.lport.slot = { code := .unknown, request := 0x00, data := [] } ∧ t.lport.transaction = none ∧
    t.lport.config = none ∧ t.lport.digest = none ∧
    t.lport.counters = { good := 0, error := 0, lost := 0, mismatch := 0, lostArb := 0, txFault := 0, dropped := 0, trips := 0 } ∧
    t.notices = { ltx := [], slu := [], au := [], pfu := [] }) ∧
  ((∀ s : State, s.rst.held = true → exec .endOfFullReset s = .next { s with
    rst := { held := false, blind := some (100 * usTicks) }
    pfu := { s.pfu with
      profile := s.pins.psel0.toNat + 2 * s.pins.psel1.toNat + 4 * s.pins.psel2.toNat, age := 0 }
    ltx := { s.ltx with recessive := 0 }
    slu := { s.slu with filter := if observedOf s.pins.shd = s.slu.observed then none else some 0 } }) ∧
  ∀ s : State, s.rst.blind = some 0 → exec .resetIgnoreEnd s = .next { s with rst := { s.rst with blind := none } })

/-- A step on an empty queue (the model's choice, log 1 and log 2): while nothing is due and nothing waits for CE, one unit of
time passes, in which the recessive time grows only while SDL is recessive (R24; how SDL's level is held is log 4); otherwise the
step is one of the commands that are due or that CE may take, or, only while nothing is due, one unit of time. Due are the
attempt that may begin (R22, R24), the timers that have run out, the trip that has qualified (R154; `reached` is log 30) and the
idle that LRX waits for (R3, R5, R8); CE takes the head of the queue (R53; which row takes a GOOD CHECK or an own record is log 11)
and the oldest notice of each unit (log 8), a shed-end notice only while no observed assertion is due (log 31). -/
def Obligations.TimePasses : Prop :=
  ((∀ s : State, s.pending = [] → s.rst.held = false → s.dueEvents = [] → s.ceTakes = [] → step s = .next { s with
    rst := { s.rst with blind := s.rst.blind.map (· - 1) }
    pins := { s.pins with sdl := s.pins.sdl.map (· + 1) }
    lrx := { s.lrx with state := match s.lrx.state with | .starting age => .starting (age + 1) | x => x }
    ltx := { s.ltx with
      recessive := if s.pins.sdl = none then s.ltx.recessive + 1 else s.ltx.recessive,
      announce := s.ltx.announce.map (· - 1), isolation := s.ltx.isolation.map (· + 1),
      check := { s.ltx.check with repeatTimer := s.ltx.check.repeatTimer.map (· - 1) } }
    own := { s.own with
      hold := s.own.hold.map (· - 1), retry := s.own.retry.map (· - 1), listen := s.own.listen.map (· - 1) }
    view := { s.view with
      peers := s.view.peers.map (fun p => { p with quiet := min (50 * s.period) (p.quiet + 1) }),
      duplicate := s.view.duplicate.map (· - 1) }
    pfu := { s.pfu with settle := s.pfu.settle.map (· + 1), age := min (65535 * msTicks) (s.pfu.age + 1) }
    slu := { s.slu with filter := s.slu.filter.map (· + 1), recovery := s.slu.recovery.map (· - 1) }
    cmon := { s.cmon with
      hold := s.cmon.hold.map (· - 1), clean := s.cmon.clean.map (· - 1), follow := s.cmon.follow.map (· - 1),
      blanking := s.cmon.blanking.map (· - 1),
      qualify := if s.qualifying then min s.qualifyTime (s.cmon.qualify + 1) else s.cmon.qualify } }) ∧
  (∀ s : State, s.pending = [] → s.rst.held = true → s.dueEvents = [] → s.ceTakes = [] → step s = .next s) ∧
  ∀ s : State, s.pending = [] → ¬(s.dueEvents = [] ∧ s.ceTakes = []) →
    (∃ c, (c ∈ s.dueEvents ∨ c ∈ s.ceTakes) ∧ step s = exec c { s with freeCount := s.freeCount + 1 }) ∨
    (s.dueEvents = [] ∧ step s = .next (State.tick { s with freeCount := s.freeCount + 1 }))) ∧
  (∀ (s : State) (c : Instr), c ∈ s.dueEvents ↔
    (c = .attemptStart ∧ s.ltx.attempt = none ∧ s.rst.held = false ∧
      (s.own.attach ≠ .detached ∨ s.ltx.check.run.isSome = true) ∧ ∃ k gap, s.ltx.pend.candidate = some k ∧
      gap = (if k = .settle ∨ k = .leave then 12 else 24) * s.bitTime ∧
      (gap ≤ s.ltx.recessive ∨ ∃ t, s.pins.sdl = some t ∧ 4 * t ≤ s.bitTime ∧ gap ≤ s.ltx.recessiveBefore + t)) ∨
    (c = .announceTimerExpiry ∧ s.ltx.announce = some 0) ∨
    (c = .isolationTimer3P ∧ s.ltx.isolationInd = false ∧ ∃ n, s.ltx.isolation = some n ∧ 3 * s.period ≤ n) ∨
    (c = .isolationTimer40P ∧ s.ltx.rejoinGiven = false ∧ ∃ n, s.ltx.isolation = some n ∧ 40 * s.period ≤ n) ∨
    (c = .repeatTimerExpiry ∧ s.ltx.check.repeatTimer = some 0 ∧ ∃ r, s.ltx.check.run = some r ∧ r.phase = .waiting) ∨
    (c = .duplicateTimerExpiry ∧ s.view.duplicate = some 0) ∨
    (c = .holdWindowExpiry ∧ s.own.intentState = .window ∧ s.own.hold = some 0) ∨
    (c = .retryTimerExpiry ∧ s.own.intentState = .retryWait ∧ s.own.retry = some 0) ∨
    (c = .listenTimerExpiry ∧ s.own.attach = .listening ∧ s.own.listen = some 0) ∨
    (c = .settleTimerExpiry ∧ ∃ n, s.pfu.settle = some n ∧ 1000 * usTicks ≤ n) ∨
    (c = .shdObservedAsserted ∧ s.pins.shd = .dominant ∧ s.slu.observed = .released ∧
      ∃ n, s.slu.filter = some n ∧ 2 * usTicks ≤ n) ∨
    (c = .shdObservedReleased ∧ s.pins.shd = .recessive ∧ s.slu.observed = .asserted ∧
      ∃ n, s.slu.filter = some n ∧ 2 * usTicks ≤ n) ∨
    (c = .recoveryTimerExpiry ∧ s.slu.recovery = some 0) ∨
    (c = .blankingEnd ∧ s.cmon.blanking = some 0) ∨
    (c = .trip ∧ s.own.attach = .member ∧ s.cmon.trip ≠ .latched ∧ (s.cmon.reached = true ∨
      (s.cmon.blanking = none ∧ s.threshold < s.pins.sense ∧ s.cmon.armed = true ∧ s.qualifyTime ≤ s.cmon.qualify))) ∨
    (c = .tripHoldEnd ∧ s.cmon.trip = .hold ∧ s.cmon.hold = some 0) ∨
    (c = .cleanTimerExpiry ∧ s.cmon.clean = some 0) ∨
    (c = .followTimerExpiry ∧ s.cmon.follow = some 0) ∨
    (c = .resetIgnoreEnd ∧ s.rst.blind = some 0) ∨
    (c = .lineIdle ∧ s.pins.sdl = none ∧ 2 * s.bitTime ≤ s.ltx.recessive ∧
      (s.lrx.state = .discard ∨ s.lrx.state = .hunt false ∨ ∃ age, s.lrx.state = .starting age)) ∨
    ∃ p ∈ s.view.peers, (c = .peerLost p.id ∧ p.presence = .live ∧ 5 * s.period ≤ p.quiet) ∨
      (c = .peerForgotten p.id ∧ p.presence = .lost ∧ 50 * s.period ≤ p.quiet)) ∧
  ∀ (s : State) (c : Instr), c ∈ s.ceTakes ↔
    (s.own.attach ≠ .detached ∧ ∃ h rest, s.rsq.records = h :: rest ∧
      ((∃ n, h = .loss n ∧ c = .takeLossRecord) ∨ ∃ r, h = .frame r ∧
        ((∃ mm, r.content = .good mm .check ∧ c = .takeCheckRecord) ∨
        (r.own = true ∧ (∀ mm, r.content ≠ .good mm .check) ∧ c = .takeOwnRecord) ∨
        (r.own = false ∧ (∀ mm d, r.content ≠ .good mm d) ∧ c = .takeErrorRecord) ∨
        (r.own = false ∧ ∃ mm d, r.content = .good mm d ∧ d ≠ .check ∧
          ((r.sender.getD 0 = s.ownId ∧ c = .takeDuplicateRecord) ∨ (r.sender.getD 0 ≠ s.ownId ∧ c = match d with
            | .announce _ => .takeAnnounce | .intent _ => .takeIntent | .settle _ => .takeSettle | .leave => .takeLeave
            | .check => .takeCheckRecord)))))) ∨
    (∃ n rest, s.notices.ltx = n :: rest ∧ c = match n with
      | .sent _ => .sentNotice | .dropped _ => .droppedNotice | .recalled => .recalledNotice | .isolated => .isolatedNotice
      | .isolationEnd => .isolationEndNotice | .rejoin => .rejoinNotice | .checkPassed => .checkPassed
      | .checkFailed => .checkFailed) ∨
    (∃ rest, s.notices.slu = .shedStart :: rest ∧ c = .shedStartNotice) ∨
    (∃ rest, s.notices.slu = .shedEnd :: rest ∧ c = .shedEndNotice ∧ ¬(s.pins.shd = .dominant ∧ s.slu.observed = .released ∧
      ∃ n, s.slu.filter = some n ∧ 2 * usTicks ≤ n)) ∨
    (∃ n rest, s.notices.au = n :: rest ∧ c = match n with | .forceAlarm _ => .forceAlarmNotice | .cleared => .clearedNotice) ∨
    (s.notices.pfu ≠ [] ∧ c = .profileChangeEvent)

/-- An expiry whose timer has not run out or whose notice has been given, a notice or a record that is not there, a notice that is
not the oldest of its unit, a record that falls under another row (`State.ceTakes`: `Obligations.TimePasses` says which commands are
in it), an event of SDL in a receive state that does not take it, a pin that keeps its level: the command did not happen and
changes nothing (log 3, from "the expiry does not happen" of R32, R33, R60, R93, R102, R158). A start recognised too early or too late for the level that began after idle is none
(R5, log 4). -/
def Obligations.AbsentOccasionChangesNothing : Prop :=
  ∀ s : State,
    (s.ltx.announce ≠ some 0 → exec .announceTimerExpiry s = .next s) ∧
    (s.ltx.isolationInd = true ∨ (∀ n, s.ltx.isolation = some n → n < 3 * s.period) → exec .isolationTimer3P s = .next s) ∧
    (s.ltx.rejoinGiven = true ∨ (∀ n, s.ltx.isolation = some n → n < 40 * s.period) → exec .isolationTimer40P s = .next s) ∧
    (s.ltx.check.repeatTimer ≠ some 0 → exec .repeatTimerExpiry s = .next s) ∧
    (s.view.duplicate ≠ some 0 → exec .duplicateTimerExpiry s = .next s) ∧
    (s.own.hold ≠ some 0 ∨ s.own.intentState ≠ .window → exec .holdWindowExpiry s = .next s) ∧
    (s.own.retry ≠ some 0 ∨ s.own.intentState ≠ .retryWait → exec .retryTimerExpiry s = .next s) ∧
    (s.own.listen ≠ some 0 ∨ s.own.attach ≠ .listening → exec .listenTimerExpiry s = .next s) ∧
    ((∀ n, s.pfu.settle = some n → n < msTicks) → exec .settleTimerExpiry s = .next s) ∧
    ((∀ n, s.slu.filter = some n → n < 2 * usTicks) →
      exec .shdObservedAsserted s = .next s ∧ exec .shdObservedReleased s = .next s) ∧
    (s.slu.recovery ≠ some 0 → exec .recoveryTimerExpiry s = .next s) ∧
    (s.cmon.blanking ≠ some 0 → exec .blankingEnd s = .next s) ∧
    (s.cmon.hold ≠ some 0 ∨ s.cmon.trip ≠ .hold → exec .tripHoldEnd s = .next s) ∧
    (s.cmon.clean ≠ some 0 → exec .cleanTimerExpiry s = .next s) ∧
    (s.cmon.follow ≠ some 0 → exec .followTimerExpiry s = .next s) ∧
    (s.rst.blind ≠ some 0 → exec .resetIgnoreEnd s = .next s) ∧
    (s.rst.held = false → exec .endOfFullReset s = .next s) ∧
    (s.ltx.attempt = none → exec .lostArbitration s = .next s ∧ exec .transmitFault s = .next s) ∧
    ((∃ a, s.ltx.attempt = some a) → exec .attemptStart s = .next s) ∧
    (s.own.attach = .detached ∨ s.rsq.records = [] →
      ∀ c ∈ [Instr.takeAnnounce, .takeIntent, .takeSettle, .takeLeave, .takeOwnRecord, .takeDuplicateRecord, .takeErrorRecord,
             .takeLossRecord, .takeCheckRecord], exec c s = .next s) ∧
    (s.notices.ltx = [] →
      ∀ c ∈ [Instr.sentNotice, .droppedNotice, .recalledNotice, .isolatedNotice, .isolationEndNotice, .rejoinNotice,
             .checkPassed, .checkFailed], exec c s = .next s) ∧
    (s.notices.slu = [] → exec .shedStartNotice s = .next s ∧ exec .shedEndNotice s = .next s) ∧
    (s.notices.au = [] → exec .forceAlarmNotice s = .next s ∧ exec .clearedNotice s = .next s) ∧
    (s.notices.pfu = [] → exec .profileChangeEvent s = .next s) ∧
    (∀ c ∈ [Instr.takeAnnounce, .takeIntent, .takeSettle, .takeLeave, .takeOwnRecord, .takeDuplicateRecord, .takeErrorRecord,
            .takeLossRecord, .takeCheckRecord, .sentNotice, .droppedNotice, .recalledNotice, .isolatedNotice, .isolationEndNotice,
            .rejoinNotice, .checkPassed, .checkFailed, .shedStartNotice, .shedEndNotice, .forceAlarmNotice, .clearedNotice,
            .profileChangeEvent], c ∉ s.ceTakes → exec c s = .next s) ∧
    (s.lrx.state = .disabled ∨ (∃ bs, s.lrx.state = .receiving bs) ∨
        ((s.pins.sdl ≠ none ∨ s.ltx.recessive < 2 * s.bitTime) ∧ (s.lrx.state = .hunt false ∨ s.lrx.state = .discard ∨
          ∃ age, s.lrx.state = .starting age ∧ (4 * age < s.bitTime ∨ 9 * s.bitTime ≤ 4 * age))) →
      exec .startDelimiter s = .next s ∧ exec .malformedStart s = .next s) ∧
    ((∀ bs, s.lrx.state ≠ .receiving bs) →
      exec .violation s = .next s ∧ exec .tooLong s = .next s ∧ ∀ b, exec (.wholeByte b) s = .next s) ∧
    (∀ bs, s.lrx.state = .receiving bs → bs.length ≠ 24 → exec .tooLong s = .next s) ∧
    ((s.pins.sdl = none ∧ s.ltx.edgeUntold = false ∧ s.ltx.recessive < 2 * s.bitTime) ∨
        (∃ t, s.pins.sdl = some t ∧ t < 2 * s.bitTime) ∨
        (∃ bs, s.lrx.state = .receiving bs) → exec .lineIdle s = .next s) ∧
    (∀ x, (∀ p, findPeer x s.view.peers = some p → p.presence = .lost ∨ p.quiet < 5 * s.period) →
      exec (.peerLost x) s = .next s) ∧
    (∀ x, (∀ p, findPeer x s.view.peers = some p → p.presence = .live ∨ p.quiet < 50 * s.period) →
      exec (.peerForgotten x) s = .next s) ∧
    (s.own.attach ≠ .member ∨ s.cmon.trip = .latched ∨ (s.cmon.reached = false ∧
        (s.cmon.blanking ≠ none ∨ s.pins.sense ≤ s.threshold ∨ s.cmon.armed = false ∨ s.cmon.qualify < s.qualifyTime)) →
      exec .trip s = .next s) ∧
    (s.rst.held = false → exec (.shdLevelChange s.pins.shd) s = .next s ∧
      exec (.pselChange s.pins.psel0 s.pins.psel1 s.pins.psel2) s = .next s)

/-! ### The Link Receiver and the Receive Status Queue -/

/-- START_DELIMITER, LINE_IDLE, SDL_DOMINANT, MALFORMED_START, VIOLATION and TOO_LONG (R3, R4, R5, R6, R7, R8, R11, R12, R24): a
broken frame's record is made at once, without the own mark, and LRX enters DISCARD. The line is idle after 2 recessive bit
times. The dominant level that begins after idle opens no frame if the next begins within a quarter of a bit time: it was a glitch
and has taken idle back (R5). The model's choices: how SDL's level follows the commands, and that a start is recognised less than
2 1/4 bit times after it began (log 4); that an idle which has come about is seen before the level that ends it (log 39); that the
twenty-fifth byte is reported by TOO_LONG as by WHOLE_BYTE (log 35); that a station without a configuration, to which no bit time
applies, counts the recessive time from LINE_IDLE (log 48). -/
def Obligations.ReceiverEvents : Prop :=
  ((∀ s u : State,
    (u = s ∧ ((s.lrx.state = .hunt true ∧ s.pins.sdl ≠ none) ∨ ((s.pins.sdl ≠ none ∨ s.ltx.recessive < 2 * s.bitTime) ∧
      ∃ age, s.lrx.state = .starting age ∧ s.bitTime ≤ 4 * age ∧ 4 * age < 9 * s.bitTime))) ∨
    (u = { s with
        pins := { s.pins with sdl := some (2 * s.bitTime) }, ltx := { s.ltx with recessive := 0, edgeUntold := false } } ∧
      s.pins.sdl = none ∧ (s.lrx.state = .hunt true ∨ (2 * s.bitTime ≤ s.ltx.recessive ∧
        (s.lrx.state = .hunt false ∨ s.lrx.state = .discard ∨ ∃ age, s.lrx.state = .starting age)))) →
    exec .startDelimiter s = .next { u with lrx := { s.lrx with state := .receiving [] } } ∧
    exec .malformedStart s = .next (State.settle (State.handRecord { u with lrx := { s.lrx with state := .discard } }
      { own := false, kind := none, sender := none, length := 0, content := .fragment }))) ∧
  (∀ s u : State,
    (u = s ∧ s.pins.sdl = none ∧ 2 * s.bitTime ≤ s.ltx.recessive) ∨
    (u = { s with pins := { s.pins with sdl := none }, ltx := { s.ltx with recessive := 2 * s.bitTime, edgeUntold := false } } ∧
      ((∃ t, s.pins.sdl = some t ∧ 2 * s.bitTime ≤ t) ∨
        (s.pins.sdl = none ∧ s.ltx.edgeUntold = true ∧ s.ltx.recessive < 2 * s.bitTime))) →
    ((s.lrx.state = .discard ∨ (∃ b, s.lrx.state = .hunt b) ∨ ∃ age, s.lrx.state = .starting age) →
      exec .lineIdle s = .next { u with lrx := { s.lrx with state := .hunt true } }) ∧
    (s.lrx.state = .disabled → exec .lineIdle s = .next u)) ∧
  ∀ (s : State) (x : LrxState),
    (s.lrx.state = .disabled ∧ x = .disabled) ∨ (∃ bs, s.lrx.state = .receiving bs ∧ x = .receiving bs) ∨
    (s.lrx.state = .hunt true ∧ x = .starting 0) ∨
    (s.pins.sdl = none ∧ 2 * s.bitTime ≤ s.ltx.recessive ∧
      (s.lrx.state = .hunt false ∨ s.lrx.state = .discard ∨ ∃ age, s.lrx.state = .starting age) ∧ x = .starting 0) ∨
    ((s.pins.sdl ≠ none ∨ s.ltx.recessive < 2 * s.bitTime) ∧
      ((s.lrx.state = .hunt false ∧ x = .hunt false) ∨ (s.lrx.state = .discard ∧ x = .discard) ∨
        ∃ age, s.lrx.state = .starting age ∧
          x = if s.bitTime ≤ 4 * age ∧ 4 * age < 9 * s.bitTime then .starting age else .hunt false)) →
    exec .sdlDominant s = .next { s with
      pins := { s.pins with sdl := some 0 }, lrx := { s.lrx with state := x }
      ltx := { s.ltx with recessive := 0, recessiveBefore := s.ltx.recessive, edgeUntold := false } }) ∧
  ((∀ (s : State) (bs : List Byte), s.lrx.state = .receiving bs → bs.length < 4 →
    exec .violation s = .next (State.settle (State.handRecord { s with lrx := { s.lrx with state := .discard } }
      { own := false, kind := none, sender := none, length := bs.length, content := .fragment }))) ∧
  (∀ (s : State) (bs : List Byte), s.lrx.state = .receiving bs → 4 ≤ bs.length →
    exec .violation s = .next (State.settle (State.handRecord { s with lrx := { s.lrx with state := .discard } }
      { own := false, kind := frameKind bs, sender := some (frameSender bs), length := bs.length, content := .symbolError }))) ∧
  ∀ (s : State) (bs : List Byte), s.lrx.state = .receiving bs → bs.length = 24 →
    exec .tooLong s = .next (State.settle (State.handRecord { s with lrx := { s.lrx with state := .discard } }
      { own := false, kind := frameKind bs, sender := some (frameSender bs), length := 25, content := .tooLong })))

/-- A record handed to the queue (R13, R16, R17): ignored in check-only mode, appended with its counters while a slot is free,
lost to an overrun while all eight are full. -/
def Obligations.RecordEntersQueue : Prop :=
  ∀ (s : State) (r : FrameRecord),
    (s.lrx.checkOnly = true → s.handRecord r = s) ∧
    (s.lrx.checkOnly = false → s.rsq.records.length < 8 →
      (∀ d, r.content = .good false d → s.handRecord r = { s with
        rsq := { s.rsq with records := s.rsq.records ++ [.frame r] }
        lport := { s.lport with counters := { s.lport.counters with good := min 65535 (s.lport.counters.good + 1) } } }) ∧
      (∀ d, r.content = .good true d → s.handRecord r = { s with
        rsq := { s.rsq with records := s.rsq.records ++ [.frame r] }
        lport := { s.lport with counters := { s.lport.counters with
          good := min 65535 (s.lport.counters.good + 1), mismatch := min 65535 (s.lport.counters.mismatch + 1) } } }) ∧
      ((∀ mm d, r.content ≠ .good mm d) → s.handRecord r = { s with
        rsq := { s.rsq with records := s.rsq.records ++ [.frame r] }
        lport := { s.lport with counters := { s.lport.counters with error := min 65535 (s.lport.counters.error + 1) } } })) ∧
    (s.lrx.checkOnly = false → 8 ≤ s.rsq.records.length → s.handRecord r = State.fire .framesLost { s with
      rsq := { s.rsq with pendingLoss := min 255 (s.rsq.pendingLoss + 1) }
      lport := { s.lport with counters := { s.lport.counters with lost := min 65535 (s.lport.counters.lost + 1) } } })

/-- R18: CE removes the head record while losses are pending. -/
def Obligations.LossPlacement : Prop :=
  (∀ (r : QueueRecord) (rest : List QueueRecord),
    Rsq.removeHead { records := r :: rest, pendingLoss := 0 } = { records := rest, pendingLoss := 0 }) ∧
  (∀ (r : QueueRecord) (front : List QueueRecord) (f : FrameRecord) (p : Nat), p ≠ 0 →
    Rsq.removeHead { records := r :: (front ++ [.frame f]), pendingLoss := p } =
      { records := front ++ [.frame f, .loss p], pendingLoss := 0 }) ∧
  ∀ (r : QueueRecord) (front : List QueueRecord) (n p : Nat), p ≠ 0 →
    Rsq.removeHead { records := r :: (front ++ [.loss n]), pendingLoss := p } =
      { records := front ++ [.loss (min 255 (n + p))], pendingLoss := 0 }

/-- WHOLE_BYTE (R6, R13, R38): the byte is kept; during a CHECK attempt the second byte of word k fills slot k unless the
capture is frozen. The twenty-fifth byte makes the frame TOO_LONG, by this command as by TOO_LONG (the model's choice, log
35). -/
def Obligations.WholeByteAssembles : Prop :=
  (∀ (s : State) (bs : List Byte) (b : Byte), s.lrx.state = .receiving bs → bs.length = 24 →
    exec (.wholeByte b) s = .next (State.settle (State.handRecord { s with lrx := { s.lrx with state := .discard } }
      { own := false, kind := frameKind bs, sender := some (frameSender bs), length := 25, content := .tooLong }))) ∧
  ∀ (s : State) (bs : List Byte) (b : Byte), s.lrx.state = .receiving bs → bs.length < 24 →
    ((∀ a, s.ltx.attempt = some a → a.kind ≠ .check) →
      exec (.wholeByte b) s = .next { s with lrx := { s.lrx with state := .receiving (bs ++ [b]) } }) ∧
    (∀ a k, s.ltx.attempt = some a → a.kind = .check → s.ltx.capture.frozen = false → k < 8 → bs.length = 5 + 2 * k →
      exec (.wholeByte b) s = .next { s with
        lrx := { s.lrx with state := .receiving (bs ++ [b]) }
        ltx := { s.ltx with capture := { s.ltx.capture with
          slots := s.ltx.capture.slots.set k (some (byteAt bs (4 + 2 * k) + 256 * b.toNat)) } } }) ∧
    (∀ a, s.ltx.attempt = some a → a.kind = .check →
      s.ltx.capture.frozen = true ∨ (∀ k < 8, bs.length ≠ 5 + 2 * k) →
      exec (.wholeByte b) s = .next { s with lrx := { s.lrx with state := .receiving (bs ++ [b]) } })

/-- END_DELIMITER in RECEIVING (R9, R11, R12, R32): the record, the hand-off of a GOOD ANNOUNCE's sender to the announce timer,
and the end of the attempt in flight (`Obligations.AttemptSent`, `Obligations.CheckAttemptEnds`) are one event. SDL has been
recessive for the two cells that complete the EOD (R3; that the model sets its level and time by it is log 4). What a CHECK
attempt needs of the frame to pass is R36; that its words are those of the frame, not of the capture slots, is the model's
reading (log 27). -/
def Obligations.EndOfFrame : Prop :=
  ∀ (s : State) (bs : List Byte), s.lrx.state = .receiving bs →
    ∃ (c : Option Nat) (mm : Bool) (announce : Option Nat),
      exec .endDelimiter s = .next (State.settle (State.attemptSent
        { State.handRecord { s with lrx := { s.lrx with state := .hunt true, lineCount := c } }
            { own := s.ltx.attempt.isSome, length := bs.length
              kind := if 4 ≤ bs.length then frameKind bs else none
              sender := if 4 ≤ bs.length then some (frameSender bs) else none
              content := match classify bs with
                | .good d => .good mm d | .crcError => .crcError | .fragment => .fragment | .formatError => .formatError } with
          pins := { s.pins with sdl := none }
          ltx := { s.ltx with recessive := 2 * s.bitTime, edgeUntold := false, announce := announce } }
        (s.checkGood (classify bs) bs))) ∧
      (∀ f, classify bs = .good (.announce f) → s.lrx.checkOnly = false → s.ltx.announce.isSome = true →
        s.view.reference = some (frameSender bs) →
        announce = some ((s.ownId + 32 - frameSender bs) % 32 * s.slot)) ∧
      (s.checkGood (classify bs) bs = true ↔ (∃ d, classify bs = .good d) ∧ readBackWords bs = s.pattern) ∧
      ((∀ f, classify bs ≠ .good (.announce f)) ∨ s.lrx.checkOnly = true ∨ s.ltx.announce = none ∨
        s.view.reference ≠ some (frameSender bs) → announce = s.ltx.announce)

/-- R14: the line count and the COUNT_MISMATCH flag. -/
def Obligations.LineCount : Prop :=
  ∀ (s : State) (bs : List Byte), s.lrx.state = .receiving bs →
    ∃ t, exec .endDelimiter s = .next t ∧
      (∀ d, classify bs = .good d → d.kind ≠ .check → s.lrx.checkOnly = false →
        (s.lrx.lineCount = none → t.lrx.lineCount = some (frameCount bs) ∧ (s.countFrame (classify bs) bs).2 = false) ∧
        ∀ c, s.lrx.lineCount = some c →
          (frameCount bs = (c + 1) % 65536 →
            t.lrx.lineCount = some (frameCount bs) ∧ (s.countFrame (classify bs) bs).2 = false) ∧
          (1 ≤ (frameCount bs + 65536 - (c + 1) % 65536) % 65536 → (frameCount bs + 65536 - (c + 1) % 65536) % 65536 ≤ 32767 →
            t.lrx.lineCount = some (frameCount bs) ∧ (s.countFrame (classify bs) bs).2 = true) ∧
          (32768 ≤ (frameCount bs + 65536 - (c + 1) % 65536) % 65536 →
            t.lrx.lineCount = some ((c + 1) % 65536) ∧ (s.countFrame (classify bs) bs).2 = true)) ∧
      (classify bs = .good .check ∨ (∀ d, classify bs ≠ .good d) ∨ s.lrx.checkOnly = true →
        t.lrx.lineCount = s.lrx.lineCount ∧ (s.countFrame (classify bs) bs).2 = false) ∧
      (∀ d, classify bs = .good d → s.lrx.checkOnly = false → s.rsq.records.length < 8 →
        t.rsq.records = s.rsq.records ++ [.frame
          { own := s.ltx.attempt.isSome, kind := some d.kind, sender := some (frameSender bs), length := bs.length,
            content := .good (s.countFrame (classify bs) bs).2 d }])

/-- R9 and the eight frame rules of R48; the CRC register bit by bit (R10); the kind, the sender and the line count field that the
header names (R11, R41, R42); and the decoded fields of every GOOD frame, read from its bytes alone, whatever its disregarded bits
hold (R43, R44, R45, R46, R49). -/
def Obligations.Classification : Prop :=
  (crc [] = 0xFFFF ∧ ∀ (bs : List Byte) (b : Byte), crc (bs ++ [b]) = (List.range 8).foldl (fun (reg : Word16) k =>
    if b.toNat.testBit k ^^ reg.toNat.testBit 15 then (reg <<< 1) ^^^ 0x1021 else reg <<< 1) (crc bs)) ∧
  ∀ bs : List Byte,
    frameKind bs = (match byteAt bs 0 % 16 with
      | 1 => some .announce | 2 => some .intent | 3 => some .check | 4 => some .leave | 8 => some .settle | _ => none) ∧
    frameSender bs = byteAt bs 1 % 32 ∧
    frameCount bs = byteAt bs 2 + 256 * byteAt bs 3 ∧
    (∀ i, frameByte bs (i + 1) = byteAt bs i ∧ frameWord bs (i + 1) = byteAt bs i + 256 * byteAt bs (i + 1)) ∧
    (∀ d, classify bs = .good d → ∃ k, frameKind bs = some k ∧ d = match k with
      | .announce => .announce
        { attach := (match frameByte bs 5 % 4 with | 0 => .listening | 1 => .joining | _ => .member)
          profile := frameByte bs 5 / 8 % 8, committed := frameWord bs 6, floor := frameWord bs 8
          openIntent := if frameByte bs 5 / 4 % 2 = 1 then some (frameByte bs 10, frameWord bs 11) else none
          digest := frameWord bs 13 }
      | .intent => .intent
        { number := frameByte bs 5, delta := frameWord bs 6, deltaMin := frameWord bs 8, committedBefore := frameWord bs 10 }
      | .settle => .settle
        { number := frameByte bs 5
          outcome := (match frameByte bs 6 % 4 with | 0 => .granted | 1 => .refused | 2 => .deferred | _ => .withdrawn)
          margin := if 2 ≤ frameByte bs 6 % 4 then none else
            match frameByte bs 6 / 16 % 4 with | 0 => some .negative | 1 => some .zero | _ => some .positive
          granted := frameWord bs 7, committedAfter := frameWord bs 9 }
      | .leave => .leave
      | .check => .check) ∧
    (bs.length < 4 → classify bs = .fragment) ∧
    (bs.length = 4 ∨ bs.length = 5 → classify bs = .crcError) ∧
    (6 ≤ bs.length → wordAt bs (bs.length - 2) ≠ (crc (bs.take (bs.length - 2))).toNat → classify bs = .crcError) ∧
    (6 ≤ bs.length → wordAt bs (bs.length - 2) = (crc (bs.take (bs.length - 2))).toNat →
      (classify bs = .formatError ∨ ∃ d, classify bs = .good d) ∧
      ((∃ d, classify bs = .good d) ↔
        ∃ k, frameKind bs = some k ∧ (frameByte bs 1) / 16 = 0 ∧ bs.length = k.frameBytes ∧ (frameByte bs 2) % 32 ≠ 0 ∧
          (k = .announce → frameWord bs 6 ≤ 4095 ∧ frameWord bs 8 ≤ 4095 ∧ frameWord bs 11 ≤ 4095 ∧
            (frameByte bs 5 / 4 % 2 = 1 → 1 ≤ frameWord bs 11) ∧ frameByte bs 5 % 4 ≠ 3) ∧
          (k = .intent → frameWord bs 6 ≤ 4095 ∧ frameWord bs 8 ≤ 4095 ∧ frameWord bs 10 ≤ 4095 ∧ 1 ≤ frameWord bs 6 ∧
            1 ≤ frameWord bs 8 ∧ frameWord bs 8 ≤ frameWord bs 6) ∧
          (k = .settle → frameWord bs 7 ≤ 4095 ∧ frameWord bs 9 ≤ 4095 ∧ frameByte bs 6 / 16 % 4 ≠ 3 ∧
            (frameByte bs 6 % 4 = 0 → 1 ≤ frameByte bs 6 / 16 % 4 ∧ 1 ≤ frameWord bs 7) ∧
            (frameByte bs 6 % 4 ≠ 0 → frameWord bs 7 = 0))))

/-- The bytes of a frame of each kind (R23, R41, R43 to R47, R10); and that a frame built from fields in their ranges is
classified GOOD with the same fields, sender and line count field (R48, R49). A field that does not fit is taken modulo its
width (the model's choice, log 28). -/
def Obligations.FramesRoundTrip : Prop :=
  ((∀ (k : FrameKind) (id count : Nat) (payload front : List Byte),
    front = [match k with | .announce => 0x1 | .intent => 0x2 | .check => 0x3 | .leave => 0x4 | .settle => 0x8,
      BitVec.ofNat 8 id, BitVec.ofNat 8 count, BitVec.ofNat 8 (count / 256)] ++ payload →
    buildFrame k id count payload = front ++ [BitVec.ofNat 8 (crc front).toNat, BitVec.ofNat 8 ((crc front).toNat / 256)]) ∧
  (∀ f : AnnounceFields, announcePayload f =
    [BitVec.ofNat 8 ((match f.attach with | .listening => 0 | .joining => 1 | .member => 2) +
        (match f.openIntent with | none => 0 | some _ => 4) + 8 * f.profile),
     BitVec.ofNat 8 f.committed, BitVec.ofNat 8 (f.committed / 256), BitVec.ofNat 8 f.floor, BitVec.ofNat 8 (f.floor / 256),
     BitVec.ofNat 8 (match f.openIntent with | none => 0 | some i => i.1),
     BitVec.ofNat 8 (match f.openIntent with | none => 0 | some i => i.2),
     BitVec.ofNat 8 ((match f.openIntent with | none => 0 | some i => i.2) / 256),
     BitVec.ofNat 8 f.digest, BitVec.ofNat 8 (f.digest / 256)]) ∧
  (∀ f : IntentFields, intentPayload f =
    [BitVec.ofNat 8 f.number, BitVec.ofNat 8 f.delta, BitVec.ofNat 8 (f.delta / 256), BitVec.ofNat 8 f.deltaMin,
     BitVec.ofNat 8 (f.deltaMin / 256), BitVec.ofNat 8 f.committedBefore, BitVec.ofNat 8 (f.committedBefore / 256)]) ∧
  (∀ f : SettleFields, settlePayload f =
    [BitVec.ofNat 8 f.number,
     BitVec.ofNat 8 ((match f.outcome with | .granted => 0 | .refused => 1 | .deferred => 2 | .withdrawn => 3) +
       16 * (match f.margin with | none => 0 | some .negative => 0 | some .zero => 1 | some .positive => 2)),
     BitVec.ofNat 8 f.granted, BitVec.ofNat 8 (f.granted / 256),
     BitVec.ofNat 8 f.committedAfter, BitVec.ofNat 8 (f.committedAfter / 256)]) ∧
  ∀ words : List Nat, checkPayload words = words.flatMap (fun w => [BitVec.ofNat 8 w, BitVec.ofNat 8 (w / 256)])) ∧
  ∀ id count : Nat, 1 ≤ id → id ≤ 31 → count ≤ 65535 →
    (∀ f : AnnounceFields, f.profile ≤ 7 → f.committed ≤ 4095 → f.floor ≤ 4095 → f.digest ≤ 65535 →
      (∀ n d, f.openIntent = some (n, d) → n ≤ 255 ∧ 1 ≤ d ∧ d ≤ 4095) →
      classify (buildFrame .announce id count (announcePayload f)) = .good (.announce f)) ∧
    (∀ f : IntentFields, f.number ≤ 255 → f.delta ≤ 4095 → 1 ≤ f.deltaMin → f.deltaMin ≤ f.delta → f.committedBefore ≤ 4095 →
      classify (buildFrame .intent id count (intentPayload f)) = .good (.intent f)) ∧
    (∀ f : SettleFields, f.number ≤ 255 → f.granted ≤ 4095 → f.committedAfter ≤ 4095 →
      (f.outcome = .granted → (f.margin = some .zero ∨ f.margin = some .positive) ∧ 1 ≤ f.granted) →
      (f.outcome = .refused → f.margin.isSome = true) →
      (f.outcome = .deferred ∨ f.outcome = .withdrawn → f.margin = none) →
      (f.outcome ≠ .granted → f.granted = 0) →
      classify (buildFrame .settle id count (settlePayload f)) = .good (.settle f)) ∧
    classify (buildFrame .leave id count []) = .good .leave ∧
    (∀ words : List Nat, words.length = 8 → (∀ w ∈ words, w ≤ 65535) →
      classify (buildFrame .check id count (checkPayload words)) = .good .check ∧
      readBackWords (buildFrame .check id count (checkPayload words)) = words) ∧
    (∀ (k : FrameKind) (payload : List Byte),
      frameSender (buildFrame k id count payload) = id ∧ frameCount (buildFrame k id count payload) = count)

/-- The level of the wire (R1). The cells of a frame, written out, read back as its bytes (R2, R3, R6): up to 24 bytes and the end
delimiter, or TOO_LONG at the twenty-fifth; a frame of n bytes takes 2 + 8n + 3 bit times. A start of another shape is malformed
(R5). After any whole bytes and data bits, a cell of equal halves inside a byte, one recessive in both halves, and a dominant cell
at a byte boundary that two recessive cells do not follow are violations (R7). -/
def Obligations.CellsRoundTrip : Prop :=
  (∀ drives : List Level, (wired drives = .dominant ↔ .dominant ∈ drives) ∧ (wired drives = .recessive ↔ .dominant ∉ drives)) ∧
  (∀ (c1 c2 : Cell) (rest : List Cell), c1.1 = .dominant →
    (c1.2 = .recessive → readStart (c1 :: rest) = [.malformedStart]) ∧
    (c1.2 = .dominant → c2 ≠ (.recessive, .recessive) → readStart (c1 :: c2 :: rest) = [.malformedStart])) ∧
  (∀ (bs : List Byte) (bits : List Bool) (c : Cell) (rest : List Cell), bs.length ≤ 24 → bits.length < 8 →
    (c = (.recessive, .recessive)) ∨ (c = (.dominant, .dominant) ∧ bits ≠ []) ∨
    (c = (.dominant, .dominant) ∧ ∃ c1 more, c1 ≠ (.recessive, .recessive) ∧
      (rest = c1 :: more ∨ rest = (.recessive, .recessive) :: c1 :: more)) →
    readStart ([(.dominant, .dominant), (.recessive, .recessive)] ++ bs.flatMap byteCells ++
      bits.map (fun b => if b then (.recessive, .dominant) else (.dominant, .recessive)) ++ c :: rest) =
        .startDelimiter :: (bs.map .wholeByte ++ [.violation])) ∧
  ∀ bs : List Byte,
    frameCells bs = [(.dominant, .dominant), (.recessive, .recessive)] ++ bs.flatMap (fun b => (List.range 8).map (fun k =>
      if b.toNat.testBit k then (.recessive, .dominant) else (.dominant, .recessive))) ++
      [(.dominant, .dominant), (.recessive, .recessive), (.recessive, .recessive)] ∧
    (frameCells bs).length = 2 + 8 * bs.length + 3 ∧
    (bs.length ≤ 24 → readStart (frameCells bs) = .startDelimiter :: (bs.map .wholeByte ++ [.endDelimiter])) ∧
    (25 ≤ bs.length → readStart (frameCells bs) = .startDelimiter :: ((bs.take 24).map .wholeByte ++ [.tooLong]))

/-- R26: which of two contending frames wins, by kind and then by the sender ID read in reverse bit order. -/
def Obligations.ArbitrationOrder : Prop :=
  (∀ (k j : FrameKind) (a b m n : Nat) (p q : List Byte),
    (k, j) ∈ [(FrameKind.settle, FrameKind.leave), (.settle, .intent), (.settle, .announce), (.settle, .check),
              (.leave, .intent), (.leave, .announce), (.leave, .check), (.intent, .announce), (.intent, .check),
              (.announce, .check)] →
    firstWins (bitsSent (buildFrame k a m p)) (bitsSent (buildFrame j b n q)) = some true) ∧
  ∀ (k : FrameKind) (a b m n : Nat) (p q : List Byte), a ≤ 31 → b ≤ 31 → a ≠ b →
    firstWins (bitsSent (buildFrame k a m p)) (bitsSent (buildFrame k b n q)) = some (decide
      (a % 2 * 16 + a / 2 % 2 * 8 + a / 4 % 2 * 4 + a / 8 % 2 * 2 + a / 16 <
        b % 2 * 16 + b / 2 % 2 * 8 + b / 4 % 2 * 4 + b / 8 % 2 * 2 + b / 16))

/-! ### The Link Transmitter -/

/-- R20 and R30: which requests LTX takes, what a request does, and what a recall request does. -/
def Obligations.RequestsToTheTransmitter : Prop :=
  (∀ (s : State) (k : FrameKind),
    (s.requestTaken k = true ↔
      (s.own.attach = .detached ∧ k = .check ∧ s.ltx.check.run.isSome = true) ∨
      ((s.own.attach = .listening ∨ s.own.attach = .joining ∨ s.own.attach = .member) ∧ k ≠ .check) ∨
      (s.own.attach = .leaving ∧ k = .leave)) ∧
    (s.requestTaken k = false → s.request k = s) ∧
    (s.requestTaken k = true → s.ltx.pend.get k = none →
      s.request k = { s with ltx := { s.ltx with pend := s.ltx.pend.put k (some { lost := 0, fault := 0, renewal := false }) } }) ∧
    (∀ e a, s.requestTaken k = true → s.ltx.pend.get k = some e → s.ltx.attempt = some a → a.kind = k →
      s.request k = { s with ltx := { s.ltx with pend := s.ltx.pend.put k (some { e with renewal := true }) } }) ∧
    (∀ e, s.requestTaken k = true → s.ltx.pend.get k = some e → (∀ a, s.ltx.attempt = some a → a.kind ≠ k) →
      s.request k = s)) ∧
  ∀ s : State,
    (∀ a, s.ltx.attempt = some a → a.kind = .intent → s.recallIntent = { s with ltx := { s.ltx with recallHeld := true } }) ∧
    (∀ e, (∀ a, s.ltx.attempt = some a → a.kind ≠ .intent) → s.ltx.pend.intent = some e → s.recallIntent = { s with
      ltx := { s.ltx with pend := { s.ltx.pend with intent := none } }
      notices := { s.notices with ltx := s.notices.ltx ++ [.recalled] } }) ∧
    ((∀ a, s.ltx.attempt = some a → a.kind ≠ .intent) → s.ltx.pend.intent = none → s.recallIntent = s)

/-- ATTEMPT_START (R22, R23, R24, R38, R120): the candidate is the kind of highest priority in the set, its attempt begins once
the recessive time has reached its gap, or reaches it within a quarter of a bit time after SDL turned dominant, and the frame
carries the fields of R23 as they stand. That SDL_DOMINANT tells the dominant level of the SOD, and ATTEMPT_START does not, is
log 4. -/
def Obligations.AttemptBegins : Prop :=
  ((∀ (p : PendingSet) (k : FrameKind), p.candidate = some k ↔ (p.get k).isSome = true ∧ ∀ j : FrameKind, (p.get j).isSome = true →
    [FrameKind.settle, .leave, .intent, .announce, .check].idxOf k ≤ [FrameKind.settle, .leave, .intent, .announce, .check].idxOf j) ∧
  (∀ (s : State) (k : FrameKind), s.ltx.attempt = none → s.rst.held = false →
    s.own.attach ≠ .detached ∨ s.ltx.check.run.isSome = true → s.ltx.pend.candidate = some k →
    (if k = .settle ∨ k = .leave then 12 else 24) * s.bitTime ≤ s.ltx.recessive ∨
      (∃ t, s.pins.sdl = some t ∧ 4 * t ≤ s.bitTime ∧
        (if k = .settle ∨ k = .leave then 12 else 24) * s.bitTime ≤ s.ltx.recessiveBefore + t) →
    exec .attemptStart s = .next { s with ltx := { s.ltx with
      attempt := some
        { kind := k, beforeRequest := false
          frame := buildFrame k s.ownId
            (if k = .check then 0 else match s.lrx.lineCount with | none => 0 | some c => (c + 1) % 65536) (s.payloadOf k) }
      capture := if k = .check ∧ s.ltx.capture.frozen = false then
        { slots := List.replicate 8 none, index := none, frozen := false } else s.ltx.capture } }) ∧
  ∀ (s : State) (k : FrameKind), s.ltx.pend.candidate = some k →
    s.ltx.recessive < (if k = .settle ∨ k = .leave then 12 else 24) * s.bitTime →
    (∀ t, s.pins.sdl = some t → 4 * t ≤ s.bitTime →
      s.ltx.recessiveBefore + t < (if k = .settle ∨ k = .leave then 12 else 24) * s.bitTime) →
    exec .attemptStart s = .next s) ∧
  (∀ s : State,
    (∀ r, s.own.resolution = some r → s.payloadOf .settle = settlePayload r) ∧
    s.payloadOf .leave = [] ∧
    (∀ f, s.own.current = some f → s.payloadOf .intent = intentPayload f) ∧
    (∀ c, s.lport.config = some c → s.payloadOf .check = c.pattern.flatMap (fun w => [BitVec.ofNat 8 w, BitVec.ofNat 8 (w / 256)])) ∧
    (∀ a c d, (s.own.attach = .listening ∧ a = AnnouncedState.listening) ∨ (s.own.attach = .joining ∧ a = .joining) ∨
        (s.own.attach = .member ∧ a = .member) → s.lport.config = some c → s.lport.digest = some d →
      (∀ f, s.own.current = some f → s.own.intentState = .window ∨ (s.own.intentState = .opening ∧ s.ltx.intentSent = true) →
        s.payloadOf .announce = announcePayload
          { attach := a, profile := s.pfu.profile, committed := s.own.committed, floor := c.floor, digest := d,
            openIntent := some (f.number, f.delta) }) ∧
      (s.own.intentState ≠ .window → ¬(s.own.intentState = .opening ∧ s.ltx.intentSent = true) →
        s.payloadOf .announce = announcePayload
          { attach := a, profile := s.pfu.profile, committed := s.own.committed, floor := c.floor, digest := d,
            openIntent := none })))

/-- LOST_ARBITRATION and TRANSMIT_FAULT for every kind but CHECK (R25, R27, R29, R30, R21): the attempt ends and is counted; then
the kind is retried, dropped, or recalled, or has already left the set. A lost arbitration reads SDL dominant, a fault reads it
recessive, and LINE_IDLE may tell that it was so before (R24, log 4). -/
def Obligations.AttemptFails : Prop :=
  ∀ (s : State) (a : Attempt), s.ltx.attempt = some a → a.kind ≠ .check →
    ∃ u v : State,
      u = { s with
        pins := { s.pins with sdl := some 0 }
        ltx := { s.ltx with attempt := none, recessive := 0, recessiveBefore := 0, edgeUntold := false }
        lport := { s.lport with counters := { s.lport.counters with lostArb := min 65535 (s.lport.counters.lostArb + 1) } } } ∧
      v = State.fire .lineFault { s with
        pins := { s.pins with sdl := none }
        ltx := { s.ltx with attempt := none, edgeUntold := s.ltx.edgeUntold || s.pins.sdl.isSome }
        lport := { s.lport with counters := { s.lport.counters with txFault := min 65535 (s.lport.counters.txFault + 1) } } } ∧
      (s.ltx.pend.get a.kind = none → s.ltx.recallHeld = false →
        exec .lostArbitration s = .next u ∧ exec .transmitFault s = .next v.settle) ∧
      (∀ e, s.ltx.pend.get a.kind = some e → ¬(a.kind = .intent ∧ s.ltx.recallHeld = true) →
        (e.lost + 1 < 16 → e.fault < 4 → exec .lostArbitration s = .next { u with
          ltx := { u.ltx with pend := s.ltx.pend.put a.kind (some { e with lost := e.lost + 1 }) } }) ∧
        (15 ≤ e.lost → exec .lostArbitration s = .next { u with
          ltx := { u.ltx with pend := s.ltx.pend.put a.kind none }
          lport := { u.lport with counters := { u.lport.counters with dropped := min 65535 (s.lport.counters.dropped + 1) } }
          notices := { s.notices with ltx := s.notices.ltx ++ [.dropped a.kind] } }) ∧
        (e.fault + 1 < 4 → e.lost < 16 → exec .transmitFault s = .next (State.settle { v with
          ltx := { v.ltx with pend := s.ltx.pend.put a.kind (some { e with fault := e.fault + 1 }) } })) ∧
        (3 ≤ e.fault → exec .transmitFault s = .next (State.settle { v with
          ltx := { v.ltx with pend := s.ltx.pend.put a.kind none }
          lport := { v.lport with counters := { v.lport.counters with dropped := min 65535 (s.lport.counters.dropped + 1) } }
          notices := { v.notices with ltx := s.notices.ltx ++ [.dropped a.kind] } }))) ∧
      (∀ e, s.ltx.pend.get a.kind = some e → a.kind = .intent → s.ltx.recallHeld = true →
        exec .lostArbitration s = .next { u with
          ltx := { u.ltx with pend := s.ltx.pend.put .intent none, recallHeld := false }
          notices := { s.notices with ltx := s.notices.ltx ++ [.recalled] } } ∧
        exec .transmitFault s = .next (State.settle { v with
          ltx := { v.ltx with pend := s.ltx.pend.put .intent none, recallHeld := false }
          notices := { v.notices with ltx := s.notices.ltx ++ [.recalled] } }))

/-- An attempt other than CHECK that ends SENT at the completion of its EOD (R12, R28, R30, R33, R34, R120). That an EOD outside
RECEIVING still ends the attempt in flight, with no record, is the model's choice (log 10). -/
def Obligations.AttemptSent : Prop :=
  (∀ (s : State) (good : Bool), s.ltx.attempt = none → s.attemptSent good = s) ∧
  (∀ s : State, (∀ bs, s.lrx.state ≠ .receiving bs) →
    (s.ltx.attempt ≠ none → exec .endDelimiter s = .next (State.settle (State.attemptSent { s with
      pins := { s.pins with sdl := none }, ltx := { s.ltx with recessive := 2 * s.bitTime, edgeUntold := false } } false))) ∧
    (s.ltx.attempt = none → exec .endDelimiter s = .next s)) ∧
  ∀ (s : State) (a : Attempt) (good : Bool), s.ltx.attempt = some a → a.kind ≠ .check →
    s.attemptSent good = { s with
      ltx := { s.ltx with
        attempt := none
        pend := match s.ltx.pend.get a.kind with
          | none => s.ltx.pend
          | some e => s.ltx.pend.put a.kind (if e.renewal then some { lost := 0, fault := 0, renewal := false } else none)
        recallHeld := if a.kind = .intent then false else s.ltx.recallHeld
        intentSent := if a.kind = .intent then !a.beforeRequest else s.ltx.intentSent
        isolation := s.ltx.isolation.map (fun _ => 0)
        isolationInd := if s.ltx.isolation.isSome then false else s.ltx.isolationInd
        rejoinGiven := if s.ltx.isolation.isSome then false else s.ltx.rejoinGiven }
      notices := { s.notices with ltx := s.notices.ltx ++ [.sent a.kind] ++
        if s.ltx.isolation.isSome ∧ s.ltx.isolationInd = true then [.isolationEnd] else [] } }

/-- The end of a CHECK attempt in a run (R13, R36, R37, R38, R39): passed, failed, lost, or met a fault, and what the run does
then. A JOIN run that has passed leaves check-only mode at once; that it is held until CE takes the notice is the model's choice
(log 9), and so is that the owner stays after a run has ended (log 16). A failure captures the first slot that is absent or differs
from its pattern word (R38). SDL reads as in `Obligations.AttemptFails` (log 4). -/
def Obligations.CheckAttemptEnds : Prop :=
  ∀ (s : State) (a : Attempt) (r : CheckRun), s.ltx.attempt = some a → a.kind = .check → s.ltx.check.run = some r →
    ∃ (passed failed faulted : State) (mismatch : Option Nat) (fails ends waits : State → State),
      (∀ k, mismatch = some k ↔ k < 8 ∧ s.ltx.capture.slots.getD k none ≠ some (s.pattern.getD k 0) ∧
        ∀ j < k, s.ltx.capture.slots.getD j none = some (s.pattern.getD j 0)) ∧
      passed = { s with ltx := { s.ltx with
        attempt := none, check := { s.ltx.check with lastResult := some .passed } } } ∧
      (∀ x : State, fails x = State.fire .lineFault { x with ltx := { x.ltx with
        attempt := none
        check := { s.ltx.check with
          lastResult := some .failed, failCounter := min 255 (s.ltx.check.failCounter + 1) }
        capture := if s.ltx.capture.frozen then s.ltx.capture else
          { s.ltx.capture with index := mismatch, frozen := true } } }) ∧
      failed = fails s ∧
      faulted = fails { s with
        pins := { s.pins with sdl := none }
        ltx := { s.ltx with edgeUntold := s.ltx.edgeUntold || s.pins.sdl.isSome }
        lport := { s.lport with counters := { s.lport.counters with txFault := min 65535 (s.lport.counters.txFault + 1) } } } ∧
      (∀ x : State, ends x = { x with
        ltx := { x.ltx with
          pend := ⟨none, none, none, none, none⟩, check := { x.ltx.check with run := none, repeatTimer := none } }
        lrx := { x.lrx with state := .disabled, checkOnly := false } }) ∧
      (∀ x : State, waits x = { x with ltx := { x.ltx with
        pend := { x.ltx.pend with check := none }
        check := { x.ltx.check with run := some { r with phase := .waiting }, repeatTimer := some x.period } } }) ∧
      (s.ltx.check.owner = some .host →
        (r.phase = .stopping ∨ r.mode = .single →
          s.attemptSent true = ends passed ∧ s.attemptSent false = ends failed ∧
          exec .transmitFault s = .next (ends faulted).settle) ∧
        (r.phase ≠ .stopping → r.mode = .untilFail →
          s.attemptSent true = waits passed ∧ s.attemptSent false = ends failed ∧
          exec .transmitFault s = .next (ends faulted).settle) ∧
        (r.phase ≠ .stopping → r.mode = .continuous →
          s.attemptSent true = waits passed ∧ s.attemptSent false = waits failed ∧
          exec .transmitFault s = .next (waits faulted).settle)) ∧
      (s.ltx.check.owner = some .join →
        s.attemptSent true = { passed with
          ltx := { passed.ltx with pend := { s.ltx.pend with check := none } }
          lrx := { s.lrx with checkOnly := false }
          notices := { s.notices with ltx := s.notices.ltx ++ [.checkPassed] } } ∧
        s.attemptSent false = State.giveLtx (ends failed) .checkFailed ∧
        exec .transmitFault s = .next (State.giveLtx (ends faulted) .checkFailed).settle) ∧
      (r.phase = .stopping → exec .lostArbitration s = .next (ends { s with
        pins := { s.pins with sdl := some 0 }
        ltx := { s.ltx with attempt := none, recessive := 0, recessiveBefore := 0, edgeUntold := false }
        lport := { s.lport with counters := { s.lport.counters with
          lostArb := min 65535 (s.lport.counters.lostArb + 1) } } })) ∧
      (∀ e, r.phase ≠ .stopping → s.ltx.pend.check = some e → exec .lostArbitration s = .next { s with
        pins := { s.pins with sdl := some 0 }
        ltx := { s.ltx with
          attempt := none, recessive := 0, recessiveBefore := 0, edgeUntold := false
          pend := { s.ltx.pend with check := some { e with lost := min 16 (e.lost + 1) } } }
        lport := { s.lport with counters := { s.lport.counters with
          lostArb := min 65535 (s.lport.counters.lostArb + 1) } } })

/-- The timers of LTX: the announce timer (R31), the isolation timer at 3P and 40P (R33, R34), the repeat timer (R37). -/
def Obligations.TransmitterTimers : Prop :=
  (∀ s : State, s.ltx.announce = some 0 → exec .announceTimerExpiry s = .next (State.request
    { s with ltx := { s.ltx with announce := some s.period } } .announce)) ∧
  (∀ (s : State) (n : Nat), s.ltx.isolation = some n → 3 * s.period ≤ n → s.ltx.isolationInd = false →
    exec .isolationTimer3P s = .next { s with
      ltx := { s.ltx with isolationInd := true }
      notices := { s.notices with ltx := s.notices.ltx ++ [.isolated] } }) ∧
  (∀ (s : State) (n : Nat), s.ltx.isolation = some n → 40 * s.period ≤ n → s.ltx.rejoinGiven = false →
    exec .isolationTimer40P s = .next { s with
      ltx := { s.ltx with rejoinGiven := true }
      notices := { s.notices with ltx := s.notices.ltx ++ [.rejoin] } }) ∧
  ∀ (s : State) (m : CheckMode), s.ltx.check.repeatTimer = some 0 → s.ltx.check.run = some { mode := m, phase := .waiting } →
    exec .repeatTimerExpiry s = .next (State.request { s with ltx := { s.ltx with
      check := { s.ltx.check with run := some { mode := m, phase := .sending }, repeatTimer := none } } } .check)

/-! ### The Claim Engine -/

/-- The end of every event that CE takes (R107, R108, R103): the opening conditions are tested, the intent is opened when all of
them hold, and the outputs follow. -/
def Obligations.EndOfCeEvent : Prop :=
  ∀ s : State,
    (s.own.intentState = .idle → (s.own.attach = .joining ∨ (s.own.attach = .member ∧ s.own.committed < s.own.target)) →
      s.certain = true → s.shedInEffect = false → s.own.isolated = false → s.au.flags &&& s.au.forceMask = 0 →
      s.endOfCeEvent = State.settle (State.request { s with
        own := { s.own with
          current := some (if s.own.attach = .joining then
              { number := s.own.nextNumber, delta := s.floor, deltaMin := s.floor, committedBefore := 0 }
            else
              { number := s.own.nextNumber, delta := s.own.target - s.own.committed,
                deltaMin := min s.own.minStep (s.own.target - s.own.committed), committedBefore := s.own.committed })
          nextNumber := (s.own.nextNumber + 1) % 256, withdrawMark := false, sentMark := false, doubtMark := false
          confirmed := false, intentState := .opening }
        ltx := { s.ltx with
          intentSent := false, attempt := s.ltx.attempt.map (fun a => { a with beforeRequest := true }) } } .intent)) ∧
    (¬(s.own.intentState = .idle ∧ (s.own.attach = .joining ∨ (s.own.attach = .member ∧ s.own.committed < s.own.target)) ∧
        s.certain = true ∧ s.shedInEffect = false ∧ s.own.isolated = false ∧ s.au.flags &&& s.au.forceMask = 0) →
      s.endOfCeEvent = s.settle)

/-- The outputs follow the state (R137, R148, R149, R150, R151, R152, R154, R166), and nothing else changes. ALERT is low while
asserted and high while released; GATE is high while the gate is on; LIMREF presents the effective reference. The model's choices:
`reached` (log 30), the trip margin 0 of a station without a configuration (log 19), and one settling for each event (log 17). -/
def Obligations.OutputsSettle : Prop :=
  ∀ s t : State, t = s.settle →
    { t with au := s.au, slu := s.slu, oc := s.oc, cmon := s.cmon } = s ∧
    t.au = { s.au with alert := s.au.flags &&& s.au.notifyMask != 0 } ∧
    t.slu = { s.slu with driven := s.lport.config.isSome &&
      (s.slu.hostShed || (s.own.attach != .detached && s.au.flags &&& s.au.lineMask != 0)) } ∧
    (s.own.attach ≠ .member → t.oc.effRef = 0) ∧
    (s.own.attach = .member →
      s.shedInEffect = true ∨ s.own.isolated = true ∨ s.au.flags &&& s.au.forceMask ≠ 0 → t.oc.effRef = s.floor) ∧
    (s.own.attach = .member → s.shedInEffect = false → s.own.isolated = false → s.au.flags &&& s.au.forceMask = 0 →
      t.oc.effRef = s.own.committed) ∧
    (t.oc.gate = true ↔ s.own.attach = .member ∧ s.cmon.trip = .clear) ∧
    { t.cmon with
      grace := s.cmon.grace, follow := s.cmon.follow
      qualify := s.cmon.qualify, armed := s.cmon.armed, reached := s.cmon.reached } = s.cmon ∧
    (s.own.attach ≠ .member → t.cmon.grace = 0 ∧ t.cmon.follow = none) ∧
    (s.own.attach = .member → t.oc.effRef < s.oc.effRef →
      (s.followTime = 0 → t.cmon.grace = s.cmon.grace ∧ t.cmon.follow = s.cmon.follow) ∧
      (s.followTime ≠ 0 → t.cmon.grace = max s.cmon.grace s.oc.effRef ∧ t.cmon.follow = some s.followTime)) ∧
    (s.own.attach = .member → s.oc.effRef < t.oc.effRef →
      (s.cmon.grace ≤ t.oc.effRef → t.cmon.grace = 0 ∧ t.cmon.follow = none) ∧
      (t.oc.effRef < s.cmon.grace → t.cmon.grace = s.cmon.grace ∧ t.cmon.follow = s.cmon.follow)) ∧
    (s.own.attach = .member → t.oc.effRef = s.oc.effRef → t.cmon.grace = s.cmon.grace ∧ t.cmon.follow = s.cmon.follow) ∧
    t.threshold = min 4095 (max t.oc.effRef t.cmon.grace + ((s.lport.config.map (·.tripMargin)).getD 0)) ∧
    ((s.own.attach ≠ .member ∨ s.cmon.trip = .latched) ∨ (s.cmon.blanking = none ∧ s.pins.sense ≤ t.threshold) →
      t.cmon.qualify = 0 ∧ t.cmon.armed = true ∧ t.cmon.reached = false) ∧
    (s.own.attach = .member → s.cmon.trip ≠ .latched → s.cmon.blanking ≠ none ∨ t.threshold < s.pins.sense →
      t.cmon.qualify = s.cmon.qualify ∧ t.cmon.armed = s.cmon.armed ∧ t.cmon.reached = s.cmon.reached) ∧
    (t.alertHigh = true ↔ s.au.flags &&& s.au.notifyMask = 0) ∧ t.gateHigh = t.oc.gate ∧
    (t.oc.effRef ≤ 4095 → t.limref.toNat = t.oc.effRef)

/-- The operations on the peer table and the intent list that the records use (R52, R55, R58, R63, R69, R79). -/
def Obligations.PeerTableOperations : Prop :=
  (∀ (x : Nat) (ps : List Peer), findPeer x ps = none → heardPeer x ps =
    { id := x, presence := .live, announced := none, committed := 0, floor := none, refreshed := false, quiet := 0,
      profile := none, digestMatch := none }) ∧
  (∀ (x : Nat) (ps : List Peer) (p : Peer), findPeer x ps = some p → heardPeer x ps = { p with presence := .live, quiet := 0 }) ∧
  (∀ (y : Nat) (p : Peer) (ps : List Peer), findPeer y (putPeer p ps) = if y = p.id then some p else findPeer y ps) ∧
  (∀ (x y : Nat) (ps : List Peer), findPeer y (removePeer x ps) = if y = x then none else findPeer y ps) ∧
  (∀ (y : Nat) (ps : List Peer), findPeer y (unrefreshPeers ps) =
    (findPeer y ps).map (fun p => if p.presence = .live then { p with refreshed := false } else p)) ∧
  (∀ (own : Nat) (ps : List Peer), referenceOf own ps = none ↔ ∀ p ∈ ps, p.presence = .live → own ≤ p.id) ∧
  (∀ (own x : Nat) (ps : List Peer), ps.Pairwise (fun p q => p.id < q.id) → referenceOf own ps = some x →
    x < own ∧ (∃ p ∈ ps, p.id = x ∧ p.presence = .live) ∧ ∀ p ∈ ps, p.presence = .live → x ≤ p.id) ∧
  (∀ (x n d : Nat) (es : List Entry) (e : Entry), findEntry x es = some e → e.number = n → reconcile x (some (n, d)) es = es) ∧
  (∀ (x n d : Nat) (es : List Entry) (e : Entry), findEntry x es = some e → e.number ≠ n →
    reconcile x (some (n, d)) es = es.filter (fun e => e.station != x) ++
      [{ station := x, number := n, delta := d, origin := .learned, own := false }]) ∧
  (∀ (x n d : Nat) (es : List Entry), findEntry x es = none → reconcile x (some (n, d)) es = es ++
    [{ station := x, number := n, delta := d, origin := .learned, own := false }]) ∧
  ∀ (x : Nat) (es : List Entry), reconcile x none es = es.filter (fun e => e.station != x)

/-- TAKE_ANNOUNCE (R54, R56, R67, R68, R79, R85). -/
def Obligations.TakePeerAnnounce : Prop :=
  ∀ (s f1 f2 : State) (r : FrameRecord) (rest : List QueueRecord) (x : Nat) (mm : Bool) (f : AnnounceFields) (ps qs : List Peer),
    s.own.attach ≠ .detached → s.rsq.records = .frame r :: rest → r.own = false → r.sender = some x → x ≠ s.ownId →
    r.content = .good mm (.announce f) →
    ps = (if mm then unrefreshPeers s.view.peers else s.view.peers) →
    qs = putPeer { heardPeer x ps with
        announced := some f.attach, committed := f.committed, floor := some f.floor, profile := some f.profile,
        digestMatch := some (s.lport.digest == some f.digest), refreshed := true } ps →
    f1 = (if s.lport.digest = some f.digest then s else s.fire .configMismatch) →
    f2 = (if f.profile ≠ s.pfu.profile ∧ s.period ≤ s.pfu.age then f1.fire .profileMismatch else f1) →
    exec .takeAnnounce s = .next (State.endOfCeEvent { f2 with
      rsq := s.rsq.removeHead
      view := { s.view with
        peers := qs, intents := reconcile x f.openIntent s.view.intents, reference := referenceOf s.ownId qs }
      own := { s.own with confirmed := s.own.confirmed || (s.own.intentState == .window && !mm) } })

/-- TAKE_INTENT, TAKE_SETTLE and TAKE_LEAVE (R54, R57, R58, R76, R77, R78, R80, R85). -/
def Obligations.TakePeerIntentSettleLeave : Prop :=
  ∀ (s : State) (r : FrameRecord) (rest : List QueueRecord) (x : Nat) (mm : Bool) (d : Decoded) (ps : List Peer) (own : OwnContext),
    s.own.attach ≠ .detached → s.rsq.records = .frame r :: rest → r.own = false → r.sender = some x → x ≠ s.ownId →
    r.content = .good mm d →
    ps = (if mm then unrefreshPeers s.view.peers else s.view.peers) →
    own = { s.own with confirmed := s.own.confirmed || (s.own.intentState == .window && !mm) } →
    (∀ f qs, d = .intent f → qs = putPeer { heardPeer x ps with committed := f.committedBefore } ps →
      exec .takeIntent s = .next (State.endOfCeEvent { s with
        rsq := s.rsq.removeHead
        view := { s.view with
          peers := qs, reference := referenceOf s.ownId qs
          intents := s.view.intents.filter (fun e => e.station != x) ++
            [{ station := x, number := f.number, delta := f.delta, origin := .intent, own := false }] }
        own := own })) ∧
    (∀ f qs, d = .settle f → qs = putPeer { heardPeer x ps with committed := f.committedAfter } ps →
      ((∃ e, findEntry x s.view.intents = some e ∧ e.number = f.number) →
        exec .takeSettle s = .next (State.endOfCeEvent { s with
          rsq := s.rsq.removeHead
          view := { s.view with
            peers := qs, reference := referenceOf s.ownId qs, intents := s.view.intents.filter (fun e => e.station != x)
            lastSettlement := some { sender := x, settle := f, matched := true } }
          own := own })) ∧
      ((∀ e, findEntry x s.view.intents = some e → e.number ≠ f.number) →
        exec .takeSettle s = .next (State.endOfCeEvent { s with
          rsq := s.rsq.removeHead
          view := { s.view with
            peers := qs, reference := referenceOf s.ownId qs
            lastSettlement := some { sender := x, settle := f, matched := false } }
          own := own }))) ∧
    (d = .leave →
      exec .takeLeave s = .next (State.endOfCeEvent { s with
        rsq := s.rsq.removeHead
        view := { s.view with
          peers := ps.filter (fun p => p.id != x), intents := s.view.intents.filter (fun e => e.station != x)
          reference := referenceOf s.ownId (ps.filter (fun p => p.id != x)) }
        own := own }))

/-- TAKE_OWN_RECORD (R53, R63, R66, R81, R82, R83). -/
def Obligations.TakeOwnRecord : Prop :=
  ∀ (s u v : State) (r : FrameRecord) (rest : List QueueRecord),
    s.own.attach ≠ .detached → s.rsq.records = .frame r :: rest → r.own = true → u = { s with rsq := s.rsq.removeHead } →
    v = { u with view := { s.view with peers := unrefreshPeers s.view.peers } } →
    (s.own.attach = .leaving → (∀ mm, r.content ≠ .good mm .check) →
      exec .takeOwnRecord s = .next u.endOfCeEvent) ∧
    (∀ mm d, s.own.attach ≠ .leaving → r.content = .good mm d → d ≠ .check →
      (∀ f c, d = .intent f → s.own.current = some c → s.own.intentState = .opening → c.number ≠ f.number) →
      exec .takeOwnRecord s = .next (State.endOfCeEvent (if mm then v else u))) ∧
    (∀ mm f c w, s.own.attach ≠ .leaving → r.content = .good mm (.intent f) → s.own.intentState = .opening →
      s.own.current = some c → c.number = f.number → w = (if mm then v else u) →
      (s.own.withdrawMark = true → exec .takeOwnRecord s = .next (State.endOfCeEvent (w.resolve .withdrawn 0 none))) ∧
      (s.own.withdrawMark = false → exec .takeOwnRecord s = .next (State.endOfCeEvent { w with
        view := { w.view with intents := s.view.intents ++
          [{ station := s.ownId, number := c.number, delta := c.delta, origin := .intent, own := true }] }
        own := { s.own with
          hold := some s.holdWindow, confirmed := false, sentMark := false, doubtMark := false,
          intentState := .window } }))) ∧
    (∀ w, s.own.attach ≠ .leaving →
      (r.content = .fragment ∧ w = u) ∨
        ((r.content = .crcError ∨ r.content = .symbolError ∨ r.content = .tooLong ∨ r.content = .formatError) ∧ w = v) →
      (s.own.intentState ≠ .opening → exec .takeOwnRecord s = .next (State.endOfCeEvent w)) ∧
      (s.own.intentState = .opening → s.own.sentMark = false → exec .takeOwnRecord s = .next (State.endOfCeEvent
        { w with own := { s.own with doubtMark := true } })) ∧
      (s.own.intentState = .opening → s.own.sentMark = true →
        exec .takeOwnRecord s = .next (State.endOfCeEvent (w.resolve .withdrawn 0 none))))

/-- TAKE_DUPLICATE_RECORD, TAKE_ERROR_RECORD, TAKE_LOSS_RECORD and TAKE_CHECK_RECORD (R47, R53, R63, R65, R83). That an error
record without the own mark unrefreshes in LEAVING too is the model's reading of R63 (log 37). -/
def Obligations.TakeOtherRecords : Prop :=
  ∀ (s u v : State) (h : QueueRecord) (rest : List QueueRecord),
    s.own.attach ≠ .detached → s.rsq.records = h :: rest → u = { s with rsq := s.rsq.removeHead } →
    v = { u with view := { s.view with peers := unrefreshPeers s.view.peers } } →
    (∀ r mm d w, h = .frame r → r.own = false → r.sender = some s.ownId → r.content = .good mm d → d ≠ .check →
      w = State.fire .duplicateId (if mm then v else u) →
      exec .takeDuplicateRecord s = .next (State.endOfCeEvent
        { w with view := { w.view with duplicate := some (5 * s.period) } })) ∧
    (∀ r, h = .frame r → r.own = false →
      (r.content = .fragment → exec .takeErrorRecord s = .next u.endOfCeEvent) ∧
      (r.content = .crcError ∨ r.content = .symbolError ∨ r.content = .tooLong ∨ r.content = .formatError →
        exec .takeErrorRecord s = .next v.endOfCeEvent)) ∧
    (∀ n, h = .loss n →
      (s.own.intentState ≠ .opening → exec .takeLossRecord s = .next v.endOfCeEvent) ∧
      (s.own.intentState = .opening → s.own.sentMark = false → exec .takeLossRecord s = .next (State.endOfCeEvent
        { v with own := { s.own with doubtMark := true } })) ∧
      (s.own.intentState = .opening → s.own.sentMark = true →
        exec .takeLossRecord s = .next (State.endOfCeEvent (v.resolve .withdrawn 0 none)))) ∧
    (∀ r mm, h = .frame r → r.content = .good mm .check → exec .takeCheckRecord s = .next u.endOfCeEvent)

/-- PEER_LOST, PEER_FORGOTTEN, DUPLICATE_TIMER_EXPIRY, RETRY_TIMER_EXPIRY and LISTEN_TIMER_EXPIRY (R60, R61, R65, R69, R102,
R111). -/
def Obligations.ViewAndClaimTimers : Prop :=
  ((∀ (s : State) (x : Nat) (p : Peer) (qs : List Peer), findPeer x s.view.peers = some p → p.presence = .live →
    5 * s.period ≤ p.quiet → qs = putPeer { p with presence := .lost, refreshed := false } s.view.peers →
    exec (.peerLost x) s = .next (State.endOfCeEvent { s with view := { s.view with
      peers := qs, intents := s.view.intents.filter (fun e => e.station != x), reference := referenceOf s.ownId qs } })) ∧
  (∀ (s : State) (x : Nat) (p : Peer), findPeer x s.view.peers = some p → p.presence = .lost → 50 * s.period ≤ p.quiet →
    exec (.peerForgotten x) s = .next (State.endOfCeEvent
      { s with view := { s.view with peers := s.view.peers.filter (fun q => q.id != x) } })) ∧
  ∀ s : State, s.view.duplicate = some 0 →
    exec .duplicateTimerExpiry s = .next (State.endOfCeEvent { s with view := { s.view with duplicate := none } })) ∧
  ((∀ s : State, s.own.intentState = .retryWait → s.own.retry = some 0 → exec .retryTimerExpiry s = .next (State.endOfCeEvent
    { s with own := { s.own with intentState := .idle, retry := none } })) ∧
  ∀ s : State, s.own.attach = .listening → s.own.listen = some 0 → exec .listenTimerExpiry s = .next (State.endOfCeEvent
    { s with own := { s.own with attach := .joining, listen := none } }))

/-- R64, R70, R71, R75: certainty, the view total, the floor sum and the pending ahead, as the table and the list stand. -/
def Obligations.ViewCounts : Prop :=
  (∀ s : State, s.certain = true ↔
    s.own.attach ≠ .listening ∧ (∀ p ∈ s.view.peers, p.presence = .live → p.refreshed = true) ∧
      holdsKind s.au.flags .duplicateId = false) ∧
  (∀ s : State, s.viewTotal = s.own.committed + (s.view.peers.map (fun p =>
    if p.presence = .live then p.committed else match p.floor with | none => p.committed | some f => min p.committed f)).sum) ∧
  (∀ s : State, s.floorSum = s.floor + (s.view.peers.map (fun p =>
    if p.presence = .live then (match p.floor with | none => p.committed | some f => f)
    else match p.floor with | none => p.committed | some f => min p.committed f)).sum) ∧
  (∀ (front back : List Entry) (e : Entry), (∀ x ∈ front, x.own = false) → e.own = true →
    pendingAhead (front ++ e :: back) = some (front.map (·.delta)).sum) ∧
  ∀ es : List Entry, (∀ x ∈ es, x.own = false) → pendingAhead es = none

/-- HOLD_WINDOW_EXPIRY (R87, R88, R89, R90, R91, R92, R103, R116, R117). That a decrease after a grant requests ANNOUNCE only if
the claim has fallen reads R117 by R116 (log 38). That the outputs settle once, on the net change of a grant and the decrease after
it, is the model's reading of R99, R149 and R152 (log 17). That an ISOLATED notice which waits for CE withdraws nothing is the model's
choice (log 50, unsafe). -/
def Obligations.DecisionAtHoldExpiry : Prop :=
  ∀ (s : State) (f : IntentFields) (a : Nat) (h : Int), s.own.intentState = .window → s.own.hold = some 0 →
    s.own.current = some f → pendingAhead s.view.intents = some a → h = (s.pfu.budget : Int) - s.viewTotal - a →
    (s.shedInEffect = true ∨ s.own.isolated = true ∨ s.au.flags &&& s.au.forceMask ≠ 0 →
      exec .holdWindowExpiry s = .next (State.endOfCeEvent (s.resolve .withdrawn 0 none))) ∧
    (s.shedInEffect = false → s.own.isolated = false → s.au.flags &&& s.au.forceMask = 0 →
      (s.certain = false ∨ (s.own.confirmed = false ∧ ∃ p ∈ s.view.peers, p.presence = .live) ∨
          (∃ front e back x, s.view.intents = front ++ e :: back ∧ (∀ y ∈ front, y.own = false) ∧ e.own = true ∧ x ∈ back ∧
            x.origin = .learned) →
        exec .holdWindowExpiry s = .next (State.endOfCeEvent (s.resolve .deferred 0 none))) ∧
      (s.certain = true → (s.own.confirmed = true ∨ ∀ p ∈ s.view.peers, p.presence = .lost) →
          (∀ front e back x, s.view.intents = front ++ e :: back → (∀ y ∈ front, y.own = false) → e.own = true → x ∈ back →
            x.origin = .intent) →
        (h < f.deltaMin → h < 0 →
          exec .holdWindowExpiry s = .next (State.endOfCeEvent (s.resolve .refused 0 (some .negative)))) ∧
        (h < f.deltaMin → h = 0 →
          exec .holdWindowExpiry s = .next (State.endOfCeEvent (s.resolve .refused 0 (some .zero)))) ∧
        (h < f.deltaMin → 0 < h →
          exec .holdWindowExpiry s = .next (State.endOfCeEvent (s.resolve .refused 0 (some .positive)))) ∧
        ((f.deltaMin : Int) ≤ h → ∀ (g : Nat) (u v : State), (g : Int) = min (f.delta : Int) (max h 0) →
          u = s.resolve .granted g (some (if h = g then .zero else .positive)) →
          v = (if s.own.attach = .joining then { u with own := { u.own with attach := .member } } else u) →
          (s.own.committed + g ≤ s.own.target → exec .holdWindowExpiry s = .next (State.endOfCeEvent v)) ∧
          (s.own.target < s.own.committed + g → max s.own.target s.floor < s.own.committed + g →
            exec .holdWindowExpiry s = .next (State.endOfCeEvent (State.request
              { v with own := { v.own with committed := max s.own.target s.floor } } .announce))) ∧
          (s.own.target < s.own.committed + g → max s.own.target s.floor = s.own.committed + g →
            exec .holdWindowExpiry s = .next (State.endOfCeEvent v)))))

/-- R92 and R114: every resolution, as one event (the withdraw mark is cleared with it, R115, log 24); a withdrawal cause in
each intent state; and the notices that bring a cause or only the opening test (R101, R144, R167, R169). A shed-end notice waits
for an observed assertion that is due at the same moment (R142, log 31). -/
def Obligations.ResolutionsAndWithdrawal : Prop :=
  (∀ (s : State) (f : IntentFields) (o : IntentOutcome) (g : Nat) (m : Option MarginClass), s.own.current = some f →
    s.resolve o g m = State.request { s with
      view := { s.view with intents := s.view.intents.filter (fun e => !e.own) }
      own := { s.own with
        hold := none, confirmed := false, sentMark := false, doubtMark := false, withdrawMark := false
        committed := s.own.committed + g
        resolution := some { number := f.number, outcome := o, margin := m, granted := g, committedAfter := s.own.committed + g }
        lastOutcome := { outcome := some o, granted := g, margin := m }
        intentState := .settling } } .settle) ∧
  ((∀ s : State,
    (s.own.intentState = .idle ∨ s.own.intentState = .retryWait ∨ s.own.intentState = .settling → s.withdrawalCause = s) ∧
    (s.own.intentState = .opening → s.own.withdrawMark = true → s.withdrawalCause = s) ∧
    (s.own.intentState = .opening → s.own.withdrawMark = false →
      s.withdrawalCause = State.recallIntent { s with own := { s.own with withdrawMark := true } }) ∧
    (s.own.intentState = .window → s.withdrawalCause = s.resolve .withdrawn 0 none)) ∧
  (∀ (s : State) (rest : List SluNotice),
    (s.notices.slu = .shedStart :: rest → exec .shedStartNotice s = .next (State.endOfCeEvent (State.withdrawalCause
      { s with notices := { s.notices with slu := rest } }))) ∧
    (s.notices.slu = .shedEnd :: rest → s.slu.observed = .asserted ∨ s.pins.shd = .recessive ∨
        (∀ n, s.slu.filter = some n → n < 2 * usTicks) →
      exec .shedEndNotice s = .next (State.endOfCeEvent { s with notices := { s.notices with slu := rest } })) ∧
    (∀ n, s.notices.slu = .shedEnd :: rest → s.slu.observed = .released → s.pins.shd = .dominant → s.slu.filter = some n →
      2 * usTicks ≤ n → exec .shedEndNotice s = .next s)) ∧
  (∀ (s : State) (k : AlarmKind) (rest : List AuNotice),
    (s.notices.au = .forceAlarm k :: rest → exec .forceAlarmNotice s = .next (State.endOfCeEvent (State.withdrawalCause
      { s with notices := { s.notices with au := rest } }))) ∧
    (s.notices.au = .cleared :: rest → exec .clearedNotice s = .next (State.endOfCeEvent
      { s with notices := { s.notices with au := rest } }))) ∧
  ∀ (s : State) (rest : List LtxNotice), s.notices.ltx = .checkFailed :: rest →
    exec .checkFailed s = .next (State.endOfCeEvent { s with notices := { s.notices with ltx := rest } }))

/-- The own committed claim increases only when an own intent is resolved GRANTED, and within the bounds of R90. -/
def Obligations.ClaimRisesOnlyByAGrant : Prop :=
  ∀ (c : Instr) (s t : State), ClaimSound s → exec c s = .next t → s.own.committed < t.own.committed →
    c = .holdWindowExpiry ∧ ∃ f r, s.own.current = some f ∧ t.own.resolution = some r ∧ r.outcome = .granted ∧
      f.deltaMin ≤ r.granted ∧ r.granted ≤ f.delta ∧
      (r.granted : Int) ≤ (s.pfu.budget : Int) - s.viewTotal - ((pendingAhead s.view.intents).getD 0 : Nat) ∧
      t.own.committed ≤ s.own.committed + r.granted ∧
      (s.own.committed + r.granted ≤ max s.own.target s.floor → t.own.committed = s.own.committed + r.granted)

/-- An own intent is never resolved GRANTED in doubt (the last sentence of R87's list). -/
def Obligations.NeverGrantedInDoubt : Prop :=
  ∀ (c : Instr) (s t : State) (r : SettleFields), exec c s = .next t → t.own.resolution = some r → r.outcome = .granted →
    t.own.resolution ≠ s.own.resolution →
    s.certain = true ∧ s.shedInEffect = false ∧ s.own.isolated = false ∧ s.au.flags &&& s.au.forceMask = 0 ∧
      (s.own.confirmed = true ∨ ∀ p ∈ s.view.peers, p.presence = .lost)

/-- SENT_NOTICE, DROPPED_NOTICE and RECALLED_NOTICE for INTENT, SETTLE, ANNOUNCE and CHECK (R83, R109, R110, R112). -/
def Obligations.TransmitNotices : Prop :=
  ∀ (s u : State) (n : LtxNotice) (rest : List LtxNotice), s.notices.ltx = n :: rest →
    u = { s with notices := { s.notices with ltx := rest } } →
    (n = .sent .intent → s.attached = true → s.own.intentState = .opening →
      (s.own.doubtMark = false → exec .sentNotice s = .next (State.endOfCeEvent
        { u with own := { s.own with sentMark := true } })) ∧
      (s.own.doubtMark = true → exec .sentNotice s = .next (State.endOfCeEvent (u.resolve .withdrawn 0 none)))) ∧
    (∀ c, (n = .dropped .intent ∧ c = Instr.droppedNotice) ∨ (n = .recalled ∧ c = .recalledNotice) → s.attached = true →
      s.own.intentState = .opening → exec c s = .next (State.endOfCeEvent { u with own := { s.own with
        current := none, withdrawMark := false, sentMark := false, doubtMark := false, retry := some s.period,
        intentState := .retryWait } })) ∧
    (∀ c r, (n = .sent .settle ∧ c = Instr.sentNotice) ∨ (n = .dropped .settle ∧ c = .droppedNotice) → s.attached = true →
      s.own.intentState = .settling → s.own.resolution = some r →
      (r.outcome = .granted → exec c s = .next (State.endOfCeEvent { u with own := { s.own with
        current := none, intentState := .idle } })) ∧
      (r.outcome ≠ .granted → exec c s = .next (State.endOfCeEvent { u with own := { s.own with
        current := none, intentState := .retryWait, retry := some s.period } }))) ∧
    (∀ c k, (n = .sent k ∧ c = Instr.sentNotice) ∨ (n = .dropped k ∧ c = .droppedNotice) →
      k = .announce ∨ k = .check ∨ (k = .intent ∧ (s.attached = false ∨ s.own.intentState ≠ .opening)) ∨
        (k = .settle ∧ (s.attached = false ∨ s.own.intentState ≠ .settling)) ∨ (k = .leave ∧ s.own.attach ≠ .leaving) →
      exec c s = .next u.endOfCeEvent) ∧
    (n = .recalled → s.attached = false ∨ s.own.intentState ≠ .opening → exec .recalledNotice s = .next u.endOfCeEvent)

/-- LEAVE completion at SENT(LEAVE) or DROPPED(LEAVE) in LEAVING (R105 and the LEAVE-completion columns of R19, R40, R73, R97,
R123, R147, R161, R163). -/
def Obligations.LeaveCompletion : Prop :=
  ∀ (s : State) (n : LtxNotice) (rest : List LtxNotice) (c : Instr), s.notices.ltx = n :: rest → s.own.attach = .leaving →
    (n = .sent .leave ∧ c = .sentNotice) ∨ (n = .dropped .leave ∧ c = .droppedNotice) →
    exec c s = .next (State.endOfCeEvent { s with
      notices := { s.notices with ltx := rest }
      lrx := { state := .disabled, checkOnly := false, lineCount := none }
      rsq := { records := [], pendingLoss := 0 }
      ltx := { s.ltx with
        pend := ⟨none, none, none, none, none⟩, recallHeld := false, attempt := none, intentSent := false, announce := none,
        isolation := none, isolationInd := false, rejoinGiven := false }
      own :=
        { attach := .detached, intentState := .idle, committed := 0, target := s.own.target, minStep := s.own.minStep,
          nextNumber := s.own.nextNumber, current := none, withdrawMark := false, sentMark := false, doubtMark := false,
          confirmed := false, hold := none, resolution := none, retry := none, listen := none, isolated := false,
          lastOutcome := s.own.lastOutcome }
      view := { peers := [], intents := [], reference := none, duplicate := s.view.duplicate, lastSettlement := none }
      slu := { s.slu with hostShed := false }
      cmon := { s.cmon with trip := .clear, hold := none, holdEdge := false, consecutive := 0, clean := none } })

/-- ISOLATED_NOTICE, ISOLATION_END_NOTICE, REJOIN_NOTICE and CHECK_PASSED (R118, R119, R106, R101, R39, R21, R34). That the run
ends, with its owner kept, when CE takes CHECK PASSED is the model's choice (log 9, log 16); that ANNOUNCE is requested at
ISOLATED with the claim at the floor already is its reading of R118 (log 26). -/
def Obligations.AttachNotices : Prop :=
  ∀ (s u : State) (n : LtxNotice) (rest : List LtxNotice), s.notices.ltx = n :: rest →
    u = { s with notices := { s.notices with ltx := rest } } →
    (n = .isolated → s.attached = true → ∀ w, w = u.withdrawalCause →
      (s.own.attach ≠ .member → exec .isolatedNotice s = .next (State.endOfCeEvent (State.fire .isolated
        { w with own := { w.own with isolated := true } }))) ∧
      (s.own.attach = .member → exec .isolatedNotice s = .next (State.endOfCeEvent (State.request (State.fire .isolated
        { w with own := { w.own with isolated := true, committed := s.floor } }) .announce)))) ∧
    (n = .isolationEnd → s.attached = true → exec .isolationEndNotice s = .next (State.endOfCeEvent
      { u with own := { s.own with isolated := false } })) ∧
    (n = .rejoin → s.attached = true → exec .rejoinNotice s = .next (State.endOfCeEvent { u with
      own := { s.own with
        current := none, withdrawMark := false, sentMark := false, doubtMark := false, confirmed := false, hold := none
        retry := none, intentState := .idle, committed := 0, isolated := false, attach := .listening
        listen := some (6 * s.period) }
      view := { s.view with
        intents := s.view.intents.filter (fun e => !e.own), peers := s.view.peers.map (fun p => { p with refreshed := false }) }
      ltx := { s.ltx with
        pend := { s.ltx.pend with intent := none }, recallHeld := false, announce := some s.period, isolation := some 0
        isolationInd := false, rejoinGiven := false } })) ∧
    (n = .checkPassed → s.own.attach = .detached → exec .checkPassed s = .next (State.endOfCeEvent { u with
      own := { s.own with
        attach := .listening, intentState := .idle, committed := 0, current := none, withdrawMark := false
        sentMark := false, doubtMark := false, confirmed := false, isolated := false, listen := some (6 * s.period) }
      ltx := { s.ltx with
        pend := ⟨none, none, none, none, none⟩, announce := some s.period, isolation := some 0, isolationInd := false
        rejoinGiven := false, check := { s.ltx.check with run := none, repeatTimer := none } } })) ∧
    (s.attached = false →
      (n = .isolated → exec .isolatedNotice s = .next u.endOfCeEvent) ∧
      (n = .isolationEnd → exec .isolationEndNotice s = .next u.endOfCeEvent) ∧
      (n = .rejoin → exec .rejoinNotice s = .next u.endOfCeEvent))

/-! ### The Profile Unit and the Shed Line Unit -/

/-- PSEL_CHANGE and SETTLE_TIMER_EXPIRY (R125, R126, R127). The model's choices: a full reset follows the wires and shows their index
(log 5); a change of the wires at the moment of the expiry, taken first, restarts or stops the timer (log 47). -/
def Obligations.ProfileWires : Prop :=
  (∀ (s : State) (a b c : Bool), s.rst.held = true → exec (.pselChange a b c) s = .next { s with
    pins := { s.pins with psel0 := a, psel1 := b, psel2 := c }
    pfu := { s.pfu with profile := a.toNat + 2 * b.toNat + 4 * c.toNat } }) ∧
  (∀ (s : State) (a b c : Bool) (i : Nat), s.rst.held = false → i = a.toNat + 2 * b.toNat + 4 * c.toNat →
    i ≠ s.pins.psel0.toNat + 2 * s.pins.psel1.toNat + 4 * s.pins.psel2.toNat →
    exec (.pselChange a b c) s = .next { s with
      pins := { s.pins with psel0 := a, psel1 := b, psel2 := c }
      pfu := { s.pfu with settle := if i = s.pfu.profile then none else some 0 } }) ∧
  ∀ (s : State) (n i b : Nat), s.pfu.settle = some n → 1000 * usTicks ≤ n →
    i = s.pins.psel0.toNat + 2 * s.pins.psel1.toNat + 4 * s.pins.psel2.toNat →
    b = (match s.pfu.table with | none => 0 | some t => t.getD i 0) →
    exec .settleTimerExpiry s = .next { s with
      pfu := { s.pfu with settle := none, profile := i, age := 0, budget := b }
      notices := { s.notices with pfu := s.notices.pfu ++ [{ index := i, budget := b }] } }

/-- PROFILE_CHANGE_EVENT (R129, R130, R132, R133, R135): unrefresh, withdrawal in the window, proportional shed, deficit check,
in this order. -/
def Obligations.ProfileChangeTaken : Prop :=
  ∀ (s u : State) (e : ProfileChange) (rest : List ProfileChange), s.notices.pfu = e :: rest →
    u = { s with notices := { s.notices with pfu := rest } } →
    (s.attached = false → exec .profileChangeEvent s = .next u.endOfCeEvent) ∧
    (s.attached = true → ∀ v w x y : State,
      v = { u with view := { s.view with peers := unrefreshPeers s.view.peers } } →
      w = (if s.own.intentState = .window then v.resolve .withdrawn 0 none else v) →
      (s.own.attach = .member → e.budget < w.viewTotal → w.shedClaim e.budget < w.own.committed →
        s.own.intentState ≠ .opening →
        x = State.request { w with own := { w.own with committed := w.shedClaim e.budget } } .announce) →
      (s.own.attach = .member → e.budget < w.viewTotal → w.shedClaim e.budget < w.own.committed →
        s.own.intentState = .opening →
        x = State.withdrawalCause (State.request
          { w with own := { w.own with committed := w.shedClaim e.budget } } .announce)) →
      (s.own.attach = .member → e.budget < w.viewTotal → w.own.committed ≤ w.shedClaim e.budget →
        x = { w with own := { w.own with committed := w.shedClaim e.budget } }) →
      (s.own.attach ≠ .member ∨ w.viewTotal ≤ e.budget → x = w) →
      y = (if e.budget < x.floorSum then State.fire .budgetDeficit x else x) →
      exec .profileChangeEvent s = .next y.endOfCeEvent)

/-- R131: the proportional shed. -/
def Obligations.ProportionalShed : Prop :=
  ∀ (s : State) (budget : Nat), s.own.attach = .member →
    (s.viewTotal ≤ budget → s.proportionalShed budget = s) ∧
    (budget < s.viewTotal →
      (s.proportionalShed budget).own.committed =
        max s.floor (s.own.committed * (32768 * budget / s.viewTotal) / 32768) ∧
      32768 * budget / s.viewTotal ≤ 32767 ∧
      (s.floor < s.own.committed → (s.proportionalShed budget).own.committed < s.own.committed))

/-- SHD_LEVEL_CHANGE, SHD_OBSERVED_ASSERTED, SHD_OBSERVED_RELEASED and RECOVERY_TIMER_EXPIRY (R140, R141, R142, R143). A level that
has lasted its 2 µs is observed by SHD_LEVEL_CHANGE too, before the level changes (the model's reading of R140, log 44). The model's
choices: SHD_LEVEL_CHANGE alone tells the level at the pin (log 43), and a full reset only follows it (log 5). -/
def Obligations.ShedLine : Prop :=
  (∀ (s : State) (l : Level), s.rst.held = true →
    exec (.shdLevelChange l) s = .next { s with pins := { s.pins with shd := l } }) ∧
  (∀ (s u : State) (l : Level) (due : Prop), s.rst.held = false → s.pins.shd ≠ l →
    (due ↔ ∃ n, s.slu.filter = some n ∧ 2 * usTicks ≤ n) →
    (u = s ∧ (¬due ∨ (s.pins.shd = .dominant ↔ s.slu.observed = .asserted))) ∨
    (exec .shdObservedAsserted s = .next u ∧ due ∧ s.pins.shd = .dominant ∧ s.slu.observed = .released) ∨
    (exec .shdObservedReleased s = .next u ∧ due ∧ s.pins.shd = .recessive ∧ s.slu.observed = .asserted) →
    exec (.shdLevelChange l) s = .next { u with
      pins := { s.pins with shd := l }
      slu := { u.slu with filter := if (l = .dominant ↔ u.slu.observed = .asserted) then none else some 0 } }) ∧
  (∀ (s : State) (n : Nat), s.slu.filter = some n → 2 * usTicks ≤ n → s.pins.shd = .dominant → s.slu.observed = .released →
    exec .shdObservedAsserted s = .next (State.settle (State.fire .shedSeen { s with
      slu := { s.slu with observed := .asserted, filter := none, recovery := none }
      notices := { s.notices with slu := s.notices.slu ++ [.shedStart] } }))) ∧
  (∀ (s : State) (n : Nat), s.slu.filter = some n → 2 * usTicks ≤ n → s.pins.shd = .recessive → s.slu.observed = .asserted →
    (s.configured = true → exec .shdObservedReleased s = .next (State.settle { s with
      slu := { s.slu with observed := .released, filter := none, recovery := some (2 * s.period) } })) ∧
    (s.configured = false → exec .shdObservedReleased s = .next (State.settle { s with
      slu := { s.slu with observed := .released, filter := none }
      notices := { s.notices with slu := s.notices.slu ++ [.shedEnd] } }))) ∧
  (∀ s : State, s.slu.recovery = some 0 → exec .recoveryTimerExpiry s = .next (State.settle { s with
    slu := { s.slu with recovery := none }
    notices := { s.notices with slu := s.notices.slu ++ [.shedEnd] } })) ∧
  ∀ s : State, s.shedInEffect = true ↔ s.slu.observed = .asserted ∨ s.slu.recovery.isSome = true

/-! ### The Current Monitor -/

/-- PWME_EDGE, BLANKING_END, SENSE_CHANGE, TRIP_HOLD_END, CLEAN_TIMER_EXPIRY and FOLLOW_TIMER_EXPIRY (R152, R153, R154, R156,
R158). The model's choices: an edge of a station without a configuration blanks nothing (log 18); an edge acts whatever level was
held (log 29), and while a full reset lasts only the level is followed (log 5); an edge leaves a trip that was due at the same
moment due (`reached`: R157, log 30); and a rising edge that ends the hold of RETRY_EDGE in every state does so for a hold
that a trip of the same moment has just begun, too (R156, against the first row of R157: log 32, unsafe); a level of SENSE below
the threshold at the moment of a trip, taken first, returns the count to 0 (log 47). -/
def Obligations.MonitorEvents : Prop :=
  (∀ (s : State) (rising : Bool), s.rst.held = true →
    exec (.pwmeEdge rising) s = .next { s with pins := { s.pins with pwme := rising } }) ∧
  (∀ (s u : State) (rising : Bool) (b : Option Nat), s.rst.held = false →
    (s.lport.config = none ∧ b = none) ∨ (∃ c, s.lport.config = some c ∧
      ((c.blanking = 0 ∧ b = none) ∨ (c.blanking = 1 ∧ b = some 2) ∨ (c.blanking = 2 ∧ b = some (1 * usTicks)) ∨
        (c.blanking = 3 ∧ b = some (2 * usTicks)))) →
    u = { s with
      pins := { s.pins with pwme := rising }
      cmon := { s.cmon with
        blanking := b
        reached := s.own.attach == .member && s.cmon.trip != .latched &&
          (s.cmon.reached || (s.cmon.blanking.isNone && decide (s.threshold < s.pins.sense) && s.cmon.armed &&
            decide (s.qualifyTime ≤ s.cmon.qualify))) } } →
    (rising = true → s.cmon.trip = .hold → s.cmon.holdEdge = true → exec (.pwmeEdge rising) s = .next (State.settle
      { u with cmon := { u.cmon with trip := .clear, hold := none, holdEdge := false } })) ∧
    (rising = false ∨ s.cmon.trip ≠ .hold ∨ s.cmon.holdEdge = false → exec (.pwmeEdge rising) s = .next u.settle)) ∧
  (∀ s : State, s.cmon.blanking = some 0 →
    exec .blankingEnd s = .next (State.settle { s with cmon := { s.cmon with blanking := none } })) ∧
  (∀ (s : State) (n : Nat), exec (.senseChange n) s = .next (State.settle { s with pins := { s.pins with sense := n } })) ∧
  (∀ s : State, s.cmon.trip = .hold → s.cmon.hold = some 0 → exec .tripHoldEnd s = .next (State.settle
    { s with cmon := { s.cmon with trip := .clear, hold := none, holdEdge := false } })) ∧
  (∀ s : State, s.cmon.clean = some 0 →
    exec .cleanTimerExpiry s = .next { s with cmon := { s.cmon with consecutive := 0, clean := none } }) ∧
  ∀ s : State, s.cmon.follow = some 0 → exec .followTimerExpiry s = .next (State.settle
    { s with cmon := { s.cmon with grace := 0, follow := none } })

/-- TRIP (R154, R155, R156, R158, R159): the five trip modes, in CLEAR and in HOLD; also when an edge at the same moment has begun
to blank the comparator (`reached`: R157, log 30). -/
def Obligations.TripTaken : Prop :=
  ∀ (s u l : State) (c : ConfigRecord), s.lport.config = some c → s.own.attach = .member → s.cmon.trip ≠ .latched →
    s.cmon.reached = true ∨
      (s.cmon.blanking = none ∧ s.threshold < s.pins.sense ∧ s.cmon.armed = true ∧ s.qualifyTime ≤ s.cmon.qualify) →
    u = { State.fire .trip s with
      lport := { s.lport with counters := { s.lport.counters with trips := min 65535 (s.lport.counters.trips + 1) } }
      cmon := { s.cmon with
        consecutive := min 255 (s.cmon.consecutive + 1), clean := some (10 * msTicks), qualify := 0, armed := false
        reached := false } } →
    l = State.fire .tripLatched { u with cmon := { u.cmon with
      trip := .latched, hold := none, holdEdge := false, clean := none } } →
    (c.tripMode = 0 → exec .trip s = .next u.settle) ∧
    (c.tripMode = 1 → exec .trip s = .next l.settle) ∧
    (2 ≤ c.tripMode → c.retryLimit ≤ min 255 (s.cmon.consecutive + 1) →
      exec .trip s = .next (State.settle (State.fire .overdrawPersistent l))) ∧
    (min 255 (s.cmon.consecutive + 1) < c.retryLimit →
      (c.tripMode = 2 → exec .trip s = .next (State.settle
        { u with cmon := { u.cmon with trip := .hold, hold := some (20 * usTicks), holdEdge := false } })) ∧
      (c.tripMode = 3 → exec .trip s = .next (State.settle
        { u with cmon := { u.cmon with trip := .hold, hold := some (50 * usTicks), holdEdge := false } })) ∧
      (c.tripMode = 4 → exec .trip s = .next (State.settle
        { u with cmon := { u.cmon with trip := .hold, hold := some (100 * usTicks), holdEdge := true } })))

/-! ### The alarms -/

/-- R164, R167: a cause that fires sets its flag once, and a force-masked flag that becomes set gives a force-alarm notice. -/
def Obligations.AlarmFires : Prop :=
  ∀ (s : State) (k : AlarmKind),
    (holdsKind s.au.flags k = true → s.fire k = s) ∧
    (holdsKind s.au.flags k = false →
      (∀ j, holdsKind (s.fire k).au.flags j = (holdsKind s.au.flags j || j == k)) ∧
      { s.fire k with au := s.au, notices := s.notices } = s ∧
      { (s.fire k).au with flags := s.au.flags } = s.au ∧
      (holdsKind s.au.forceMask k = true →
        (s.fire k).notices = { s.notices with au := s.notices.au ++ [.forceAlarm k] }) ∧
      (holdsKind s.au.forceMask k = false → (s.fire k).notices = s.notices))

/-- An alarm flag, once set, stays set until a CLEAR ALARMS request naming it finds its cause absent, or a full reset (R164,
R169). -/
def Obligations.AlarmsAreSticky : Prop :=
  ∀ (c : Instr) (s t : State) (k : AlarmKind), exec c s = .next t → holdsKind s.au.flags k = true →
    holdsKind t.au.flags k = false →
    c = .fullReset ∨ ∃ ps, c = .clearAlarms ps ∧ (wordAt (portParams ps) 0).testBit k.bit = true ∧
      (k = .tripLatched → s.cmon.trip ≠ .latched) ∧ (k = .isolated → s.own.isolated = false) ∧
      (k = .duplicateId → s.view.duplicate = none) ∧ (k = .shedSeen → s.slu.observed = .released)

/-! ### The local port -/

/-- R173: the transaction, its start and its end without a request, NOP, a code that names no request (R174), and the request that
the received bytes bring (R183). Bytes go most significant bit first in both directions, and bits that complete no byte are
ignored (that they are given as functions of the transaction is log 42). Without a transaction in progress, or with the port blind,
every request changes nothing (log 12), and MISO is released, or reads 0x00 while the port is blind; so it is released, too, after
the blind time in a transaction that began in it (log 41); 0x00 in the blind time is given whatever the level of CSN (log 49). -/
def Obligations.PortTransactions : Prop :=
  (∀ s : State, s.transactionEnds = true ↔ (∃ copy, s.lport.transaction = some copy) ∧ s.rst.held = false ∧ s.rst.blind = none) ∧
  (∀ s : State, s.rst.held = false → s.rst.blind = none → s.lport.transaction = none →
    exec .transactionStart s = .next { s with lport := { s.lport with
      transaction := some ((match s.lport.slot.code with
        | .done => 0x00 | .accepted => 0x01 | .refusedState => 0x02 | .badValue => 0x03 | .unknown => 0x04) ::
          s.lport.slot.request :: s.lport.slot.data) } }) ∧
  (∀ s : State, s.rst.held = true ∨ s.rst.blind ≠ none → exec .transactionStart s = .next s) ∧
  (∀ s : State, s.transactionEnds = true →
    exec .transactionWithoutRequest s = .next { s with lport := { s.lport with transaction := none } } ∧
    exec .nop s = .next { s with lport := { s.lport with transaction := none } } ∧
    ∀ code : Byte, code ∉ requestCodes → exec (.unknownRequest code) s = .next { s with
      lport := { s.lport with transaction := none, slot := { code := .unknown, request := code, data := [] } } }) ∧
  (∀ (s : State) (copy : List Byte) (k : Nat), s.lport.transaction = some copy → s.rst.held = false → s.rst.blind = none →
    s.misoByte k = some (copy.getD k 0)) ∧
  (∀ (s : State) (k : Nat), (s.rst.held = true ∨ s.rst.blind ≠ none → s.misoByte k = some 0) ∧
    (s.rst.held = false → s.rst.blind = none → s.lport.transaction = none → s.misoByte k = none)) ∧
  (∀ (s : State) (copy : List Byte), s.lport.transaction = some copy → exec .transactionStart s = .next s) ∧
  (∀ (s : State) (code : Byte) (ps : List Byte), s.lport.transaction = none ∨ s.rst.held = true ∨ s.rst.blind ≠ none →
    ∀ c ∈ [Instr.transactionWithoutRequest, .unknownRequest code, .nop, .readStatus, .readSnapshot ps, .readCapture,
           .readCounters ps, .configure ps, .join, .leave, .setTarget ps, .reEnable, .assertShed, .releaseShed, .clearAlarms ps,
           .takeSnapshot, .lineCheck ps, .stopCheck], exec c s = .next s) ∧
  (commandReceived [] = .transactionWithoutRequest ∧
    ∀ (code : Byte) (ps qs : List Byte), qs = ps.take 63 →
      ((code, commandReceived (code :: ps)) ∈ [((0x00 : Byte), Instr.nop), (0x01, .readStatus), (0x02, .readSnapshot qs),
          (0x03, .readCapture), (0x04, .readCounters qs), (0x10, .configure qs), (0x11, .join), (0x12, .leave),
          (0x13, .setTarget qs), (0x14, .reEnable), (0x15, .assertShed), (0x16, .releaseShed), (0x17, .clearAlarms qs),
          (0x18, .takeSnapshot), (0x19, .lineCheck qs), (0x1A, .stopCheck)]) ∨
        (code ∉ requestCodes ∧ commandReceived (code :: ps) = .unknownRequest code)) ∧
  (∀ (bs : List Byte) (rest : List Bool), rest.length < 8 →
    commandOfBits (bs.flatMap (fun b => (List.range 8).map (fun k => b.toNat.testBit (7 - k))) ++ rest) = commandReceived bs) ∧
  ∀ (s : State) (cycle : Nat), s.misoBit cycle = (s.misoByte (cycle / 8)).map (fun b => b.toNat.testBit (7 - cycle % 8))

/-- R174, R175: the order of the tests, and that a refused request changes nothing but the response slot, in which it leaves no data.
For READ SNAPSHOT, of which R181 says that every answer carries the generation and the counts, this is the model's reading (log
45). -/
def Obligations.PortTests : Prop :=
  ∀ (s : State) (ps : List Byte) (refuse : RespCode → Byte → State), s.transactionEnds = true →
    (∀ code request, refuse code request =
      { s with lport := { s.lport with transaction := none, slot := { code := code, request := request, data := [] } } }) →
    ((portParams ps).length < 2 → exec (.readSnapshot ps) s = .next (refuse .badValue 0x02) ∧
      exec (.clearAlarms ps) s = .next (refuse .badValue 0x17)) ∧
    ((portParams ps).length < 1 → exec (.readCounters ps) s = .next (refuse .badValue 0x04) ∧
      exec (.lineCheck ps) s = .next (refuse .badValue 0x19)) ∧
    ((portParams ps).length < 52 → exec (.configure ps) s = .next (refuse .badValue 0x10)) ∧
    ((portParams ps).length < 4 → exec (.setTarget ps) s = .next (refuse .badValue 0x13)) ∧
    (52 ≤ (portParams ps).length → s.own.attach ≠ .detached ∨ s.ltx.check.run ≠ none →
      exec (.configure ps) s = .next (refuse .refusedState 0x10)) ∧
    (52 ≤ (portParams ps).length → s.own.attach = .detached → s.ltx.check.run = none → (parseConfig (portParams ps)).inRange = false →
      exec (.configure ps) s = .next (refuse .badValue 0x10)) ∧
    (s.own.attach ≠ .detached ∨ s.ltx.check.run ≠ none ∨ s.lport.config = none →
      exec .join s = .next (refuse .refusedState 0x11) ∧
      (1 ≤ (portParams ps).length → exec (.lineCheck ps) s = .next (refuse .refusedState 0x19))) ∧
    (s.own.attach = .detached → s.ltx.check.run = none → s.lport.config ≠ none → 1 ≤ (portParams ps).length →
      3 ≤ byteAt (portParams ps) 0 → exec (.lineCheck ps) s = .next (refuse .badValue 0x19)) ∧
    (s.own.attach = .detached ∨ s.own.attach = .leaving → exec .leave s = .next (refuse .refusedState 0x12)) ∧
    (4 ≤ (portParams ps).length → s.lport.config = none ∨ s.own.attach = .leaving →
      exec (.setTarget ps) s = .next (refuse .refusedState 0x13)) ∧
    (4 ≤ (portParams ps).length → s.lport.config ≠ none → s.own.attach ≠ .leaving →
      s.ceiling < wordAt (portParams ps) 0 ∨ wordAt (portParams ps) 2 = 0 ∨ 4095 < wordAt (portParams ps) 2 →
      exec (.setTarget ps) s = .next (refuse .badValue 0x13)) ∧
    (s.cmon.trip ≠ .latched → exec .reEnable s = .next (refuse .refusedState 0x14)) ∧
    (s.lport.config = none → exec .assertShed s = .next (refuse .refusedState 0x15) ∧
      exec .releaseShed s = .next (refuse .refusedState 0x16) ∧ exec .takeSnapshot s = .next (refuse .refusedState 0x18)) ∧
    (2 ≤ (portParams ps).length → 2048 ≤ wordAt (portParams ps) 0 → exec (.clearAlarms ps) s = .next (refuse .badValue 0x17)) ∧
    (s.ltx.check.run = none ∨ s.ltx.check.owner ≠ some .host → exec .stopCheck s = .next (refuse .refusedState 0x1A)) ∧
    (1 ≤ (portParams ps).length → 2 ≤ byteAt (portParams ps) 0 → exec (.readCounters ps) s = .next (refuse .badValue 0x04)) ∧
    (2 ≤ (portParams ps).length → 3 ≤ byteAt (portParams ps) 0 ∨ s.snap.own = none ∧ byteAt (portParams ps) 0 = 0 ∨
        byteAt (portParams ps) 0 = 0 ∧ 2 ≤ byteAt (portParams ps) 1 ∨
        byteAt (portParams ps) 0 = 1 ∧ s.snap.peers.length ≤ byteAt (portParams ps) 1 ∨
        byteAt (portParams ps) 0 = 2 ∧ s.snap.intents.length ≤ byteAt (portParams ps) 1 →
      exec (.readSnapshot ps) s = .next (refuse .badValue 0x02))

/-- READ STATUS, READ SNAPSHOT, READ CAPTURE and READ COUNTERS (R180 to R184): the response, whose records
`Obligations.RecordLayouts` lays out, and that nothing else changes but the counters a clearing read zeroes (and the model's own
counter of free values at READ CAPTURE, log 14). -/
def Obligations.PortReads : Prop :=
  ∀ (s : State) (ps : List Byte) (put : List Byte → Byte → State), s.transactionEnds = true →
    (∀ data request, put data request =
      { s with lport := { s.lport with transaction := none, slot := { code := .done, request := request, data := data } } }) →
    exec .readStatus s = .next (put s.statusRecord 0x01) ∧
    (2 ≤ (portParams ps).length → ∀ prefixBytes, prefixBytes =
        [BitVec.ofNat 8 s.snap.generation, BitVec.ofNat 8 s.snap.peers.length, BitVec.ofNat 8 s.snap.intents.length] →
      (∀ o, s.snap.own = some o → byteAt (portParams ps) 0 = 0 → byteAt (portParams ps) 1 = 0 →
        exec (.readSnapshot ps) s = .next (put (prefixBytes ++ ownRecordBytes o) 0x02)) ∧
      (∀ o, s.snap.own = some o → byteAt (portParams ps) 0 = 0 → byteAt (portParams ps) 1 = 1 →
        exec (.readSnapshot ps) s = .next (put (prefixBytes ++ settlementBytes s.snap.settlement) 0x02)) ∧
      (∀ p, byteAt (portParams ps) 0 = 1 → s.snap.peers[byteAt (portParams ps) 1]? = some p →
        exec (.readSnapshot ps) s = .next (put (prefixBytes ++ peerBytes p) 0x02)) ∧
      (∀ e, byteAt (portParams ps) 0 = 2 → s.snap.intents[byteAt (portParams ps) 1]? = some e →
        exec (.readSnapshot ps) s = .next (put (prefixBytes ++ entryBytes e) 0x02))) ∧
    exec .readCapture s = .next { put s.captureRecord 0x03 with freeCount := s.freeCount + 1 } ∧
    (1 ≤ (portParams ps).length → ∀ data, data =
        [s.lport.counters.good, s.lport.counters.error, s.lport.counters.lost, s.lport.counters.mismatch,
         s.lport.counters.lostArb, s.lport.counters.txFault, s.lport.counters.dropped, s.lport.counters.trips].flatMap
          (fun n => [BitVec.ofNat 8 n, BitVec.ofNat 8 (n / 256)]) →
      (byteAt (portParams ps) 0 = 0 → exec (.readCounters ps) s = .next (put data 0x04)) ∧
      (byteAt (portParams ps) 0 = 1 → exec (.readCounters ps) s = .next { put data 0x04 with
        lport := { (put data 0x04).lport with counters := ⟨0, 0, 0, 0, 0, 0, 0, 0⟩ } }))

/-- The records at the port, byte by byte, read back as the fields they report (R183): the status record (R180), the own
context summary (R122), the last peer settlement (R78), a peer record (R52), an intent entry (R74) and the capture record (R182).
A value is taken modulo its field (log 28). The model's choices: the rounding of a timer value between two units is free (log
13), and so are the value bytes of an absent slot (log 14), on which nothing is said; an absent group keeps its place with the
fillers (log 15); the quiet time is a timer value (log 34). -/
def Obligations.RecordLayouts : Prop :=
  (∀ (s : State) (b : List Byte), b = s.statusRecord →
    b.length = 29 ∧
    byteAt b 0 = (match s.own.attach with | .detached => 0 | .listening => 1 | .joining => 2 | .member => 3 | .leaving => 4) ∧
    byteAt b 1 = (match s.own.intentState with | .idle => 0 | .opening => 1 | .window => 2 | .settling => 3 | .retryWait => 4) ∧
    wordAt b 2 = s.own.committed % 65536 ∧ wordAt b 4 = s.own.target % 65536 ∧ wordAt b 6 = s.own.minStep % 65536 ∧
    wordAt b 8 = s.oc.effRef % 65536 ∧
    byteAt b 10 = s.oc.gate.toNat + 2 * (match s.cmon.trip with | .clear => 0 | .hold => 1 | .latched => 2) ∧
    byteAt b 11 = s.cmon.consecutive % 256 ∧
    byteAt b 12 = s.certain.toNat + 2 * s.own.isolated.toNat + 4 * s.shedInEffect.toNat + 8 * s.slu.hostShed.toNat +
      16 * s.slu.driven.toNat + 32 * (s.slu.observed == .asserted).toNat + 64 * s.lport.config.isSome.toNat +
      128 * s.lrx.lineCount.isSome.toNat ∧
    byteAt b 13 = s.pfu.profile % 256 ∧ wordAt b 14 = s.pfu.budget % 65536 ∧
    wordAt b 16 + 65536 * byteAt b 18 = s.viewTotal % 16777216 ∧
    byteAt b 19 = (s.view.peers.filter Peer.isLive).length % 256 ∧
    byteAt b 20 = (s.view.peers.filter (fun p => !p.isLive)).length % 256 ∧
    byteAt b 21 = s.view.intents.length % 256 ∧
    byteAt b 22 =
      (match s.own.lastOutcome.outcome with
        | none => 0 | some .granted => 1 | some .refused => 2 | some .deferred => 3 | some .withdrawn => 4) +
      16 * (match s.own.lastOutcome.margin with | some .negative => 0 | some .zero => 1 | some .positive => 2 | none => 3) ∧
    wordAt b 23 = s.own.lastOutcome.granted % 65536 ∧ wordAt b 25 = s.au.flags.toNat ∧
    wordAt b 27 = (s.lrx.lineCount.getD 0) % 65536) ∧
  (∀ t : Nat, (t % 400 = 0 → tenths t = t / 400) ∧ t / 400 ≤ tenths t ∧ tenths t ≤ t / 400 + 1) ∧
  (∀ (o : OwnSummary) (b : List Byte) (timer : Option Nat → Nat), b = ownRecordBytes o →
    (∀ t, timer t = match t with | none => 0xFFFF | some n => tenths n % 65536) →
    b.length = 53 ∧ byteAt b 0 = o.stationId % 256 ∧
    byteAt b 1 = (match o.context.attach with
      | .detached => 0 | .listening => 1 | .joining => 2 | .member => 3 | .leaving => 4) ∧
    byteAt b 2 = (match o.context.intentState with
      | .idle => 0 | .opening => 1 | .window => 2 | .settling => 3 | .retryWait => 4) ∧
    wordAt b 3 = o.context.committed % 65536 ∧ wordAt b 5 = o.context.target % 65536 ∧
    wordAt b 7 = o.context.minStep % 65536 ∧ wordAt b 9 = o.floor % 65536 ∧ byteAt b 11 = o.context.nextNumber % 256 ∧
    (match o.context.current with
      | none => byteAt b 12 = 0 ∧ byteAt b 13 = 0xFF ∧ wordAt b 14 = 0xFFFF ∧ wordAt b 16 = 0xFFFF ∧ wordAt b 18 = 0xFFFF
      | some f => byteAt b 12 = 1 ∧ byteAt b 13 = f.number % 256 ∧ wordAt b 14 = f.delta % 65536 ∧
          wordAt b 16 = f.deltaMin % 65536 ∧ wordAt b 18 = f.committedBefore % 65536) ∧
    byteAt b 20 = o.context.withdrawMark.toNat ∧ byteAt b 21 = o.context.sentMark.toNat ∧
    byteAt b 22 = o.context.doubtMark.toNat ∧ byteAt b 23 = o.context.confirmed.toNat ∧
    wordAt b 24 = timer o.context.hold ∧ wordAt b 26 = timer o.context.retry ∧ wordAt b 28 = timer o.context.listen ∧
    (match o.context.resolution with
      | none => byteAt b 30 = 0 ∧ byteAt b 31 = 0xFF ∧ byteAt b 32 = 0xFF ∧ byteAt b 33 = 3 ∧ wordAt b 34 = 0xFFFF ∧
          wordAt b 36 = 0xFFFF
      | some f => byteAt b 30 = 1 ∧ byteAt b 31 = f.number % 256 ∧
          byteAt b 32 = (match f.outcome with | .granted => 1 | .refused => 2 | .deferred => 3 | .withdrawn => 4) ∧
          byteAt b 33 = (match f.margin with | some .negative => 0 | some .zero => 1 | some .positive => 2 | none => 3) ∧
          wordAt b 34 = f.granted % 65536 ∧ wordAt b 36 = f.committedAfter % 65536) ∧
    byteAt b 38 = (match o.context.lastOutcome.outcome with
      | none => 0 | some .granted => 1 | some .refused => 2 | some .deferred => 3 | some .withdrawn => 4) ∧
    wordAt b 39 = o.context.lastOutcome.granted % 65536 ∧
    byteAt b 41 = (match o.context.lastOutcome.margin with
      | some .negative => 0 | some .zero => 1 | some .positive => 2 | none => 3) ∧
    byteAt b 42 = o.context.isolated.toNat ∧ byteAt b 43 = o.certain.toNat ∧
    wordAt b 44 + 65536 * byteAt b 46 = o.total % 16777216 ∧
    wordAt b 47 + 65536 * byteAt b 49 = (match o.pendingAhead with | none => 0xFFFFFF | some n => n % 16777216) ∧
    byteAt b 50 = (match o.reference with | none => 0xFF | some x => x % 256) ∧ wordAt b 51 = timer o.duplicate) ∧
  (∀ (p : Option PeerSettlement) (b : List Byte), b = settlementBytes p → b.length = 10 ∧
    (match p with
      | none => byteAt b 0 = 0 ∧ byteAt b 1 = 0xFF ∧ byteAt b 2 = 0xFF ∧ byteAt b 3 = 0xFF ∧ byteAt b 4 = 3 ∧
          wordAt b 5 = 0xFFFF ∧ wordAt b 7 = 0xFFFF ∧ byteAt b 9 = 0xFF
      | some q => byteAt b 0 = 1 ∧ byteAt b 1 = q.sender % 256 ∧ byteAt b 2 = q.settle.number % 256 ∧
          byteAt b 3 = (match q.settle.outcome with | .granted => 1 | .refused => 2 | .deferred => 3 | .withdrawn => 4) ∧
          byteAt b 4 = (match q.settle.margin with
            | some .negative => 0 | some .zero => 1 | some .positive => 2 | none => 3) ∧
          wordAt b 5 = q.settle.granted % 65536 ∧ wordAt b 7 = q.settle.committedAfter % 65536 ∧
          byteAt b 9 = q.matched.toNat)) ∧
  (∀ (p : Peer) (b : List Byte), b = peerBytes p → b.length = 12 ∧ byteAt b 0 = p.id % 256 ∧
    byteAt b 1 = (match p.presence with | .live => 0 | .lost => 1) ∧
    byteAt b 2 = (match p.announced with
      | some .listening => 1 | some .joining => 2 | some .member => 3 | none => 5) ∧
    wordAt b 3 = p.committed % 65536 ∧ wordAt b 5 = (match p.floor with | none => 0xFFFF | some f => f % 65536) ∧
    byteAt b 7 = p.refreshed.toNat ∧ wordAt b 8 = tenths p.quiet % 65536 ∧
    byteAt b 10 = (match p.profile with | none => 0xFF | some i => i % 256) ∧
    byteAt b 11 = (match p.digestMatch with | none => 0xFF | some m => m.toNat)) ∧
  (∀ (e : Entry) (b : List Byte), b = entryBytes e → b.length = 6 ∧ byteAt b 0 = e.station % 256 ∧
    byteAt b 1 = e.number % 256 ∧ wordAt b 2 = e.delta % 65536 ∧
    byteAt b 4 = (match e.origin with | .intent => 0 | .learned => 1) ∧ byteAt b 5 = e.own.toNat) ∧
  ∀ (s : State) (b : List Byte), b = s.captureRecord → b.length = 29 ∧
    byteAt b 0 = (match s.ltx.check.run with
      | none => 0
      | some r => 1 + (match r.mode with | .single => 0 | .untilFail => 1 | .continuous => 2) +
          4 * (match r.phase with | .sending => 0 | .waiting => 1 | .stopping => 2)) ∧
    byteAt b 1 = (match s.ltx.check.owner with | none => 0 | some .host => 1 | some .join => 2) ∧
    byteAt b 2 = (match s.ltx.check.lastResult with | none => 0 | some .passed => 1 | some .failed => 2) ∧
    byteAt b 3 = s.ltx.check.failCounter % 256 ∧
    byteAt b 4 = (match s.ltx.capture.index with | none => 0xFF | some k => k % 256) ∧
    ∀ k < 8, match s.ltx.capture.slots.getD k none with
      | none => byteAt b (5 + 3 * k) = 0
      | some w => byteAt b (5 + 3 * k) = 1 ∧ wordAt b (6 + 3 * k) = w % 65536

/-- CONFIGURE accepted (R50, R124, R165, R176, R177): the ranges of R176, and what the event stores. Then the times that the codes
of a configuration stand for (R1, R84, R152, R154, R183), in the model's units of 0.25 µs (log 1). -/
def Obligations.ConfigureStores : Prop :=
  (∀ c : ConfigRecord, c.inRange = true ↔
    1 ≤ c.stationId ∧ c.stationId ≤ 31 ∧ c.bitRate ≤ 3 ∧ c.period ≤ 3 ∧ 1 ≤ c.hold ∧ c.hold ≤ 40 ∧ 1 ≤ c.floor ∧
      c.floor ≤ 4095 ∧ c.floor ≤ c.ceiling ∧ c.ceiling ≤ 4095 ∧ c.tripMargin ≤ 255 ∧ c.blanking ≤ 3 ∧ c.qualify ≤ 3 ∧
      c.follow ≤ 3 ∧ c.tripMode ≤ 4 ∧ 1 ≤ c.retryLimit ∧ c.retryLimit ≤ 15 ∧ c.notifyMask < 2048 ∧ c.forceMask < 2048 ∧
      c.lineMask < 2048 ∧ c.lineMask.testBit 10 = false) ∧
  (∀ (s : State) (ps qs : List Byte) (c : ConfigRecord), s.transactionEnds = true → qs = portParams ps → 52 ≤ qs.length →
    s.own.attach = .detached → s.ltx.check.run = none → c.inRange = true →
    c = { stationId := byteAt qs 0, bitRate := byteAt qs 1, period := byteAt qs 2, hold := byteAt qs 3, floor := wordAt qs 4,
          ceiling := wordAt qs 6
          budgets := [wordAt qs 8, wordAt qs 10, wordAt qs 12, wordAt qs 14, wordAt qs 16, wordAt qs 18, wordAt qs 20, wordAt qs 22]
          tripMargin := byteAt qs 24, blanking := byteAt qs 25, qualify := byteAt qs 26, follow := byteAt qs 27
          tripMode := byteAt qs 28, retryLimit := byteAt qs 29, notifyMask := wordAt qs 30, forceMask := wordAt qs 32
          lineMask := wordAt qs 34
          pattern := [wordAt qs 36, wordAt qs 38, wordAt qs 40, wordAt qs 42, wordAt qs 44, wordAt qs 46, wordAt qs 48, wordAt qs 50] } →
    exec (.configure ps) s = .next (State.respond (State.settle { s with
      lport := { s.lport with
        transaction := none, config := some c
        digest := some (crc ([BitVec.ofNat 8 c.bitRate, BitVec.ofNat 8 c.period, BitVec.ofNat 8 c.hold] ++
          c.budgets.flatMap (fun w => [BitVec.ofNat 8 w, BitVec.ofNat 8 (w / 256)]))).toNat }
      pfu := { s.pfu with table := some c.budgets, budget := c.budgets.getD s.pfu.profile 0 }
      au := { s.au with
        notifyMask := BitVec.ofNat 16 c.notifyMask, forceMask := BitVec.ofNat 16 c.forceMask
        lineMask := BitVec.ofNat 16 c.lineMask }
      own := { s.own with target := min s.own.target c.ceiling } }) .done 0x10 [])) ∧
  (usTicks = 4 ∧ msTicks = 1000 * usTicks) ∧
  ∀ (s : State) (c : ConfigRecord), s.lport.config = some c → c.inRange = true →
    s.bitTime = (match c.bitRate with | 0 => 8 | 1 => 4 | 2 => 2 | _ => 1) * usTicks ∧
    s.period = (match c.period with | 0 => 10 | 1 => 20 | 2 => 50 | _ => 100) * msTicks ∧ 32 * s.slot = s.period ∧
    s.holdWindow = 5 * c.hold * msTicks ∧
    s.followTime = (match c.follow with | 0 => 0 | 1 => 100 | 2 => 500 | _ => 2000) * usTicks ∧
    4 * s.qualifyTime = (match c.qualify with | 0 => 0 | 1 => 1 | 2 => 2 | _ => 4) * usTicks

/-- JOIN, LINE CHECK and STOP CHECK taken (R35, R37, R38, R39, R101, R179). That the owner stays after STOP CHECK has ended a run
is the model's reading (log 16). -/
def Obligations.LineCheckRequests : Prop :=
  (∀ (s : State) (ps : List Byte) (begin : CheckMode → CheckOwner → State), s.transactionEnds = true →
    s.own.attach = .detached → s.ltx.check.run = none → s.lport.config ≠ none →
    (∀ m o, begin m o = State.request { s with
      lport := { s.lport with transaction := none }
      ltx := { s.ltx with
        check := { run := some { mode := m, phase := .sending }, owner := some o, lastResult := none, failCounter := 0
                   repeatTimer := none }
        capture := { slots := List.replicate 8 none, index := none, frozen := false } }
      lrx := { s.lrx with state := .hunt false, checkOnly := true } } .check) →
    exec .join s = .next (State.respond (begin .single .join) .accepted 0x11 []) ∧
    (1 ≤ (portParams ps).length →
      (byteAt (portParams ps) 0 = 0 → exec (.lineCheck ps) s = .next (State.respond (begin .single .host) .accepted 0x19 [])) ∧
      (byteAt (portParams ps) 0 = 1 → exec (.lineCheck ps) s = .next (State.respond (begin .untilFail .host) .accepted 0x19 [])) ∧
      (byteAt (portParams ps) 0 = 2 →
        exec (.lineCheck ps) s = .next (State.respond (begin .continuous .host) .accepted 0x19 [])))) ∧
  ∀ (s u : State) (m : CheckMode) (p : CheckPhase), s.transactionEnds = true → s.ltx.check.run = some { mode := m, phase := p } →
    s.ltx.check.owner = some .host → u = { s with lport := { s.lport with transaction := none } } →
    (p = .waiting ∨ (p = .sending ∧ s.ltx.attempt = none) → exec .stopCheck s = .next (State.respond { u with
      ltx := { s.ltx with
        pend := ⟨none, none, none, none, none⟩, check := { s.ltx.check with run := none, repeatTimer := none } }
      lrx := { s.lrx with state := .disabled, checkOnly := false } } .done 0x1A [])) ∧
    (∀ a, p = .sending → s.ltx.attempt = some a → exec .stopCheck s = .next (State.respond { u with
      ltx := { s.ltx with check := { s.ltx.check with run := some { mode := m, phase := .stopping } } } } .done 0x1A [])) ∧
    (p = .stopping → exec .stopCheck s = .next (State.respond u .done 0x1A []))

/-- LEAVE and SET TARGET taken (R21, R86, R104, R116, R178). -/
def Obligations.LeaveAndSetTarget : Prop :=
  (∀ s : State, s.transactionEnds = true → s.own.attach = .listening ∨ s.own.attach = .joining ∨ s.own.attach = .member →
    exec .leave s = .next (State.respond (State.endOfCeEvent { s with
      lport := { s.lport with transaction := none }
      own := { s.own with
        current := none, withdrawMark := false, sentMark := false, doubtMark := false, confirmed := false, hold := none
        retry := none, intentState := .idle, committed := 0, listen := none, isolated := false, attach := .leaving }
      view := { s.view with intents := s.view.intents.filter (fun e => !e.own) }
      ltx := { s.ltx with
        pend := ⟨none, some { lost := 0, fault := 0, renewal := false }, none, none, none⟩, recallHeld := false
        announce := none, isolation := none } }) .accepted 0x12 [])) ∧
  ∀ (s u w : State) (ps : List Byte) (target minStep : Nat), s.transactionEnds = true → s.lport.config ≠ none →
    s.own.attach ≠ .leaving → 4 ≤ (portParams ps).length → target = wordAt (portParams ps) 0 →
    minStep = wordAt (portParams ps) 2 → target ≤ s.ceiling → 1 ≤ minStep → minStep ≤ 4095 →
    u = { s with
      lport := { s.lport with transaction := none }, own := { s.own with target := target, minStep := minStep } } →
    w = u.withdrawalCause →
    (s.own.attach ≠ .member ∨ s.own.committed < target →
      exec (.setTarget ps) s = .next (State.respond u.endOfCeEvent .done 0x13 [])) ∧
    (s.own.attach = .member → target = s.own.committed →
      exec (.setTarget ps) s = .next (State.respond w.endOfCeEvent .done 0x13 [])) ∧
    (s.own.attach = .member → max target s.floor < s.own.committed →
      exec (.setTarget ps) s = .next (State.respond (State.endOfCeEvent (State.request
        { w with own := { w.own with committed := max target s.floor } } .announce)) .done 0x13 [])) ∧
    (s.own.attach = .member → target < s.own.committed → s.floor = s.own.committed →
      exec (.setTarget ps) s = .next (State.respond w.endOfCeEvent .done 0x13 []))

/-- RE-ENABLE, ASSERT SHED, RELEASE SHED, CLEAR ALARMS and TAKE SNAPSHOT taken (R160, R138, R169, R170, R185, R121, R122). That
before CLEAR ALARMS CE takes the notices of AU up to the last force-alarm notice of a kind that the request clears, and none if it
clears no such kind, reads R169 and R170 (log 36). -/
def Obligations.HostActions : Prop :=
  ∀ (s u : State), s.transactionEnds = true → u = { s with lport := { s.lport with transaction := none } } →
    (s.cmon.trip = .latched → exec .reEnable s = .next (State.respond (State.settle { u with cmon := { s.cmon with
      trip := .clear, consecutive := 0, clean := none, qualify := 0, armed := true, reached := false } }) .done 0x14 [])) ∧
    (s.lport.config ≠ none →
      exec .assertShed s = .next (State.respond (State.settle
        { u with slu := { s.slu with hostShed := true } }) .done 0x15 []) ∧
      exec .releaseShed s = .next (State.respond (State.settle
        { u with slu := { s.slu with hostShed := false } }) .done 0x16 []) ∧
      exec .takeSnapshot s = .next (State.respond (State.endOfCeEvent { u with snap :=
        { own := some { stationId := s.ownId, context := s.own, floor := s.floor, certain := s.certain, total := s.viewTotal
                        pendingAhead := pendingAhead s.view.intents, reference := s.view.reference
                        duplicate := s.view.duplicate }
          peers := s.view.peers, intents := s.view.intents, settlement := s.view.lastSettlement
          generation := (s.snap.generation + 1) % 256 } }) .done 0x18
        [BitVec.ofNat 8 ((s.snap.generation + 1) % 256), BitVec.ofNat 8 s.view.peers.length,
         BitVec.ofNat 8 s.view.intents.length])) ∧
    ∀ (ps : List Byte) (named cause : AlarmKind → Bool), 2 ≤ (portParams ps).length → wordAt (portParams ps) 0 < 2048 →
      (∀ k, named k = (wordAt (portParams ps) 0).testBit k.bit) →
      (∀ k, cause k = true ↔ (k = .tripLatched ∧ s.cmon.trip = .latched) ∨ (k = .isolated ∧ s.own.isolated = true) ∨
        (k = .duplicateId ∧ s.view.duplicate.isSome = true) ∨ (k = .shedSeen ∧ s.slu.observed = .asserted)) →
      ∃ (flags kept : Word16) (front rest : List AuNotice) (w : State), s.notices.au = front ++ rest ∧
        (∀ k, .forceAlarm k ∈ rest → holdsKind s.au.flags k = true → named k = true → cause k = true) ∧
        (front = [] ∨ ∃ before k, front = before ++ [.forceAlarm k] ∧ holdsKind s.au.flags k = true ∧ named k = true ∧
          cause k = false) ∧
        w = front.foldl (fun (t : State) n => State.endOfCeEvent (match n with
            | .forceAlarm _ => State.withdrawalCause { t with notices := { t.notices with au := t.notices.au.tail } }
            | .cleared => { t with notices := { t.notices with au := t.notices.au.tail } })) u ∧
        (∀ k, holdsKind flags k = (holdsKind s.au.flags k && !(named k && !cause k))) ∧
        (∀ k, holdsKind kept k = (named k && holdsKind s.au.flags k && cause k)) ∧ kept.toNat < 2048 ∧
        exec (.clearAlarms ps) s = .next (State.respond (State.settle { w with
          au := { w.au with flags := flags }
          notices := if flags = s.au.flags then w.notices else { w.notices with au := w.notices.au ++ [.cleared] } })
          .done 0x17 [BitVec.ofNat 8 kept.toNat, BitVec.ofNat 8 (kept.toNat / 256)])

/-! ### Invariants that every step keeps -/

/-- Every invariant of Safety.lean holds at reset. -/
def Obligations.SoundAtReset : Prop :=
  OutputsAgree State.reset ∧ QueueSound State.reset.rsq ∧ CountsSound State.reset.ltx.pend ∧ WidthsKept State.reset ∧
    LinkSound State.reset ∧ TimersAgree State.reset ∧ ClaimSound State.reset ∧ ViewSound State.reset

/-- GATE, LIMREF, ALERT, the SHD drive, the grace value and the qualification agree with the state after every step. -/
def Obligations.OutputsAlwaysAgree : Prop := ∀ s t : State, OutputsAgree s → step s = .next t → OutputsAgree t

/-- The Receive Status Queue, the counts of the pending set, and the width of every register that holds a number. The widths rest
on the bounds of the own claim and on the at most 24 bytes that LRX assembles, which every step keeps too
(`Obligations.ClaimStaysWithinItsBounds`, `Obligations.LinkStaysSound`). -/
def Obligations.QueueCountsAndWidthsKept : Prop :=
  ∀ s t : State, step s = .next t →
    (QueueSound s.rsq → QueueSound t.rsq) ∧ (CountsSound s.ltx.pend → CountsSound t.ltx.pend) ∧
      (ClaimSound s → LinkSound s → WidthsKept s → WidthsKept t)

/-- The line check and the receiver agree with the attach state after every step. `passHeld` and `passOnce` (a JOIN run that has
passed is held until CE takes its one notice) are the model's choice (log 9). -/
def Obligations.LinkStaysSound : Prop := ∀ s t : State, LinkSound s → step s = .next t → LinkSound t

/-- Every timer runs exactly in the states that R98 and the rules of the timers name, after every step, and the marks stand only
where R83, R92, R109 and R115 leave them. `openMarks` rests on the model's reading that every resolution clears the withdraw mark
(log 24). -/
def Obligations.TimersStayInAgreement : Prop := ∀ s t : State, TimersAgree s → step s = .next t → TimersAgree t

/-- The own committed claim is 0 whenever the attach state is not MEMBER, and lies between the configured floor and ceiling
whenever it is MEMBER (R99), after every step. -/
def Obligations.ClaimStaysWithinItsBounds : Prop := ∀ s t : State, ClaimSound s → step s = .next t → ClaimSound t

/-- The peer table, the intent list and the reference station keep their form after every step. -/
def Obligations.ViewStaysSound : Prop := ∀ s t : State, ViewSound s → step s = .next t → ViewSound t

end
end

