-- ==== Sys2Proof/Laws/State.lean ====
section
/-! SUPPORT. Reading a field of State after a setter: the field that was set gives the new value, every other field is as
before. Setting the same field twice keeps the second value. -/

namespace Sys2Proof.Machine.State

/-! ### setRst -/

@[simp] theorem setRst_rst (s : State) (x : ResetUnit) : (s.setRst x).rst = x := rfl
@[simp] theorem setRst_pins (s : State) (x : ResetUnit) : (s.setRst x).pins = s.pins := rfl
@[simp] theorem setRst_lrx (s : State) (x : ResetUnit) : (s.setRst x).lrx = s.lrx := rfl
@[simp] theorem setRst_rsq (s : State) (x : ResetUnit) : (s.setRst x).rsq = s.rsq := rfl
@[simp] theorem setRst_ltx (s : State) (x : ResetUnit) : (s.setRst x).ltx = s.ltx := rfl
@[simp] theorem setRst_own (s : State) (x : ResetUnit) : (s.setRst x).own = s.own := rfl
@[simp] theorem setRst_view (s : State) (x : ResetUnit) : (s.setRst x).view = s.view := rfl
@[simp] theorem setRst_snap (s : State) (x : ResetUnit) : (s.setRst x).snap = s.snap := rfl
@[simp] theorem setRst_pfu (s : State) (x : ResetUnit) : (s.setRst x).pfu = s.pfu := rfl
@[simp] theorem setRst_slu (s : State) (x : ResetUnit) : (s.setRst x).slu = s.slu := rfl
@[simp] theorem setRst_oc (s : State) (x : ResetUnit) : (s.setRst x).oc = s.oc := rfl
@[simp] theorem setRst_cmon (s : State) (x : ResetUnit) : (s.setRst x).cmon = s.cmon := rfl
@[simp] theorem setRst_au (s : State) (x : ResetUnit) : (s.setRst x).au = s.au := rfl
@[simp] theorem setRst_lport (s : State) (x : ResetUnit) : (s.setRst x).lport = s.lport := rfl
@[simp] theorem setRst_notices (s : State) (x : ResetUnit) : (s.setRst x).notices = s.notices := rfl
@[simp] theorem setRst_freeCount (s : State) (x : ResetUnit) : (s.setRst x).freeCount = s.freeCount := rfl
@[simp] theorem setRst_pending (s : State) (x : ResetUnit) : (s.setRst x).pending = s.pending := rfl
@[simp] theorem setRst_setRst (s : State) (x y : ResetUnit) : (s.setRst x).setRst y = s.setRst y := rfl
@[simp] theorem setRst_self (s : State) : s.setRst s.rst = s := rfl

/-! ### setPins -/

@[simp] theorem setPins_rst (s : State) (x : Pins) : (s.setPins x).rst = s.rst := rfl
@[simp] theorem setPins_pins (s : State) (x : Pins) : (s.setPins x).pins = x := rfl
@[simp] theorem setPins_lrx (s : State) (x : Pins) : (s.setPins x).lrx = s.lrx := rfl
@[simp] theorem setPins_rsq (s : State) (x : Pins) : (s.setPins x).rsq = s.rsq := rfl
@[simp] theorem setPins_ltx (s : State) (x : Pins) : (s.setPins x).ltx = s.ltx := rfl
@[simp] theorem setPins_own (s : State) (x : Pins) : (s.setPins x).own = s.own := rfl
@[simp] theorem setPins_view (s : State) (x : Pins) : (s.setPins x).view = s.view := rfl
@[simp] theorem setPins_snap (s : State) (x : Pins) : (s.setPins x).snap = s.snap := rfl
@[simp] theorem setPins_pfu (s : State) (x : Pins) : (s.setPins x).pfu = s.pfu := rfl
@[simp] theorem setPins_slu (s : State) (x : Pins) : (s.setPins x).slu = s.slu := rfl
@[simp] theorem setPins_oc (s : State) (x : Pins) : (s.setPins x).oc = s.oc := rfl
@[simp] theorem setPins_cmon (s : State) (x : Pins) : (s.setPins x).cmon = s.cmon := rfl
@[simp] theorem setPins_au (s : State) (x : Pins) : (s.setPins x).au = s.au := rfl
@[simp] theorem setPins_lport (s : State) (x : Pins) : (s.setPins x).lport = s.lport := rfl
@[simp] theorem setPins_notices (s : State) (x : Pins) : (s.setPins x).notices = s.notices := rfl
@[simp] theorem setPins_freeCount (s : State) (x : Pins) : (s.setPins x).freeCount = s.freeCount := rfl
@[simp] theorem setPins_pending (s : State) (x : Pins) : (s.setPins x).pending = s.pending := rfl
@[simp] theorem setPins_setPins (s : State) (x y : Pins) : (s.setPins x).setPins y = s.setPins y := rfl
@[simp] theorem setPins_self (s : State) : s.setPins s.pins = s := rfl

/-! ### setLrx -/

@[simp] theorem setLrx_rst (s : State) (x : Lrx) : (s.setLrx x).rst = s.rst := rfl
@[simp] theorem setLrx_pins (s : State) (x : Lrx) : (s.setLrx x).pins = s.pins := rfl
@[simp] theorem setLrx_lrx (s : State) (x : Lrx) : (s.setLrx x).lrx = x := rfl
@[simp] theorem setLrx_rsq (s : State) (x : Lrx) : (s.setLrx x).rsq = s.rsq := rfl
@[simp] theorem setLrx_ltx (s : State) (x : Lrx) : (s.setLrx x).ltx = s.ltx := rfl
@[simp] theorem setLrx_own (s : State) (x : Lrx) : (s.setLrx x).own = s.own := rfl
@[simp] theorem setLrx_view (s : State) (x : Lrx) : (s.setLrx x).view = s.view := rfl
@[simp] theorem setLrx_snap (s : State) (x : Lrx) : (s.setLrx x).snap = s.snap := rfl
@[simp] theorem setLrx_pfu (s : State) (x : Lrx) : (s.setLrx x).pfu = s.pfu := rfl
@[simp] theorem setLrx_slu (s : State) (x : Lrx) : (s.setLrx x).slu = s.slu := rfl
@[simp] theorem setLrx_oc (s : State) (x : Lrx) : (s.setLrx x).oc = s.oc := rfl
@[simp] theorem setLrx_cmon (s : State) (x : Lrx) : (s.setLrx x).cmon = s.cmon := rfl
@[simp] theorem setLrx_au (s : State) (x : Lrx) : (s.setLrx x).au = s.au := rfl
@[simp] theorem setLrx_lport (s : State) (x : Lrx) : (s.setLrx x).lport = s.lport := rfl
@[simp] theorem setLrx_notices (s : State) (x : Lrx) : (s.setLrx x).notices = s.notices := rfl
@[simp] theorem setLrx_freeCount (s : State) (x : Lrx) : (s.setLrx x).freeCount = s.freeCount := rfl
@[simp] theorem setLrx_pending (s : State) (x : Lrx) : (s.setLrx x).pending = s.pending := rfl
@[simp] theorem setLrx_setLrx (s : State) (x y : Lrx) : (s.setLrx x).setLrx y = s.setLrx y := rfl
@[simp] theorem setLrx_self (s : State) : s.setLrx s.lrx = s := rfl

/-! ### setRsq -/

@[simp] theorem setRsq_rst (s : State) (x : Rsq) : (s.setRsq x).rst = s.rst := rfl
@[simp] theorem setRsq_pins (s : State) (x : Rsq) : (s.setRsq x).pins = s.pins := rfl
@[simp] theorem setRsq_lrx (s : State) (x : Rsq) : (s.setRsq x).lrx = s.lrx := rfl
@[simp] theorem setRsq_rsq (s : State) (x : Rsq) : (s.setRsq x).rsq = x := rfl
@[simp] theorem setRsq_ltx (s : State) (x : Rsq) : (s.setRsq x).ltx = s.ltx := rfl
@[simp] theorem setRsq_own (s : State) (x : Rsq) : (s.setRsq x).own = s.own := rfl
@[simp] theorem setRsq_view (s : State) (x : Rsq) : (s.setRsq x).view = s.view := rfl
@[simp] theorem setRsq_snap (s : State) (x : Rsq) : (s.setRsq x).snap = s.snap := rfl
@[simp] theorem setRsq_pfu (s : State) (x : Rsq) : (s.setRsq x).pfu = s.pfu := rfl
@[simp] theorem setRsq_slu (s : State) (x : Rsq) : (s.setRsq x).slu = s.slu := rfl
@[simp] theorem setRsq_oc (s : State) (x : Rsq) : (s.setRsq x).oc = s.oc := rfl
@[simp] theorem setRsq_cmon (s : State) (x : Rsq) : (s.setRsq x).cmon = s.cmon := rfl
@[simp] theorem setRsq_au (s : State) (x : Rsq) : (s.setRsq x).au = s.au := rfl
@[simp] theorem setRsq_lport (s : State) (x : Rsq) : (s.setRsq x).lport = s.lport := rfl
@[simp] theorem setRsq_notices (s : State) (x : Rsq) : (s.setRsq x).notices = s.notices := rfl
@[simp] theorem setRsq_freeCount (s : State) (x : Rsq) : (s.setRsq x).freeCount = s.freeCount := rfl
@[simp] theorem setRsq_pending (s : State) (x : Rsq) : (s.setRsq x).pending = s.pending := rfl
@[simp] theorem setRsq_setRsq (s : State) (x y : Rsq) : (s.setRsq x).setRsq y = s.setRsq y := rfl
@[simp] theorem setRsq_self (s : State) : s.setRsq s.rsq = s := rfl

/-! ### setLtx -/

@[simp] theorem setLtx_rst (s : State) (x : Ltx) : (s.setLtx x).rst = s.rst := rfl
@[simp] theorem setLtx_pins (s : State) (x : Ltx) : (s.setLtx x).pins = s.pins := rfl
@[simp] theorem setLtx_lrx (s : State) (x : Ltx) : (s.setLtx x).lrx = s.lrx := rfl
@[simp] theorem setLtx_rsq (s : State) (x : Ltx) : (s.setLtx x).rsq = s.rsq := rfl
@[simp] theorem setLtx_ltx (s : State) (x : Ltx) : (s.setLtx x).ltx = x := rfl
@[simp] theorem setLtx_own (s : State) (x : Ltx) : (s.setLtx x).own = s.own := rfl
@[simp] theorem setLtx_view (s : State) (x : Ltx) : (s.setLtx x).view = s.view := rfl
@[simp] theorem setLtx_snap (s : State) (x : Ltx) : (s.setLtx x).snap = s.snap := rfl
@[simp] theorem setLtx_pfu (s : State) (x : Ltx) : (s.setLtx x).pfu = s.pfu := rfl
@[simp] theorem setLtx_slu (s : State) (x : Ltx) : (s.setLtx x).slu = s.slu := rfl
@[simp] theorem setLtx_oc (s : State) (x : Ltx) : (s.setLtx x).oc = s.oc := rfl
@[simp] theorem setLtx_cmon (s : State) (x : Ltx) : (s.setLtx x).cmon = s.cmon := rfl
@[simp] theorem setLtx_au (s : State) (x : Ltx) : (s.setLtx x).au = s.au := rfl
@[simp] theorem setLtx_lport (s : State) (x : Ltx) : (s.setLtx x).lport = s.lport := rfl
@[simp] theorem setLtx_notices (s : State) (x : Ltx) : (s.setLtx x).notices = s.notices := rfl
@[simp] theorem setLtx_freeCount (s : State) (x : Ltx) : (s.setLtx x).freeCount = s.freeCount := rfl
@[simp] theorem setLtx_pending (s : State) (x : Ltx) : (s.setLtx x).pending = s.pending := rfl
@[simp] theorem setLtx_setLtx (s : State) (x y : Ltx) : (s.setLtx x).setLtx y = s.setLtx y := rfl
@[simp] theorem setLtx_self (s : State) : s.setLtx s.ltx = s := rfl

/-! ### setOwn -/

@[simp] theorem setOwn_rst (s : State) (x : OwnContext) : (s.setOwn x).rst = s.rst := rfl
@[simp] theorem setOwn_pins (s : State) (x : OwnContext) : (s.setOwn x).pins = s.pins := rfl
@[simp] theorem setOwn_lrx (s : State) (x : OwnContext) : (s.setOwn x).lrx = s.lrx := rfl
@[simp] theorem setOwn_rsq (s : State) (x : OwnContext) : (s.setOwn x).rsq = s.rsq := rfl
@[simp] theorem setOwn_ltx (s : State) (x : OwnContext) : (s.setOwn x).ltx = s.ltx := rfl
@[simp] theorem setOwn_own (s : State) (x : OwnContext) : (s.setOwn x).own = x := rfl
@[simp] theorem setOwn_view (s : State) (x : OwnContext) : (s.setOwn x).view = s.view := rfl
@[simp] theorem setOwn_snap (s : State) (x : OwnContext) : (s.setOwn x).snap = s.snap := rfl
@[simp] theorem setOwn_pfu (s : State) (x : OwnContext) : (s.setOwn x).pfu = s.pfu := rfl
@[simp] theorem setOwn_slu (s : State) (x : OwnContext) : (s.setOwn x).slu = s.slu := rfl
@[simp] theorem setOwn_oc (s : State) (x : OwnContext) : (s.setOwn x).oc = s.oc := rfl
@[simp] theorem setOwn_cmon (s : State) (x : OwnContext) : (s.setOwn x).cmon = s.cmon := rfl
@[simp] theorem setOwn_au (s : State) (x : OwnContext) : (s.setOwn x).au = s.au := rfl
@[simp] theorem setOwn_lport (s : State) (x : OwnContext) : (s.setOwn x).lport = s.lport := rfl
@[simp] theorem setOwn_notices (s : State) (x : OwnContext) : (s.setOwn x).notices = s.notices := rfl
@[simp] theorem setOwn_freeCount (s : State) (x : OwnContext) : (s.setOwn x).freeCount = s.freeCount := rfl
@[simp] theorem setOwn_pending (s : State) (x : OwnContext) : (s.setOwn x).pending = s.pending := rfl
@[simp] theorem setOwn_setOwn (s : State) (x y : OwnContext) : (s.setOwn x).setOwn y = s.setOwn y := rfl
@[simp] theorem setOwn_self (s : State) : s.setOwn s.own = s := rfl

/-! ### setView -/

@[simp] theorem setView_rst (s : State) (x : View) : (s.setView x).rst = s.rst := rfl
@[simp] theorem setView_pins (s : State) (x : View) : (s.setView x).pins = s.pins := rfl
@[simp] theorem setView_lrx (s : State) (x : View) : (s.setView x).lrx = s.lrx := rfl
@[simp] theorem setView_rsq (s : State) (x : View) : (s.setView x).rsq = s.rsq := rfl
@[simp] theorem setView_ltx (s : State) (x : View) : (s.setView x).ltx = s.ltx := rfl
@[simp] theorem setView_own (s : State) (x : View) : (s.setView x).own = s.own := rfl
@[simp] theorem setView_view (s : State) (x : View) : (s.setView x).view = x := rfl
@[simp] theorem setView_snap (s : State) (x : View) : (s.setView x).snap = s.snap := rfl
@[simp] theorem setView_pfu (s : State) (x : View) : (s.setView x).pfu = s.pfu := rfl
@[simp] theorem setView_slu (s : State) (x : View) : (s.setView x).slu = s.slu := rfl
@[simp] theorem setView_oc (s : State) (x : View) : (s.setView x).oc = s.oc := rfl
@[simp] theorem setView_cmon (s : State) (x : View) : (s.setView x).cmon = s.cmon := rfl
@[simp] theorem setView_au (s : State) (x : View) : (s.setView x).au = s.au := rfl
@[simp] theorem setView_lport (s : State) (x : View) : (s.setView x).lport = s.lport := rfl
@[simp] theorem setView_notices (s : State) (x : View) : (s.setView x).notices = s.notices := rfl
@[simp] theorem setView_freeCount (s : State) (x : View) : (s.setView x).freeCount = s.freeCount := rfl
@[simp] theorem setView_pending (s : State) (x : View) : (s.setView x).pending = s.pending := rfl
@[simp] theorem setView_setView (s : State) (x y : View) : (s.setView x).setView y = s.setView y := rfl
@[simp] theorem setView_self (s : State) : s.setView s.view = s := rfl

/-! ### setSnap -/

@[simp] theorem setSnap_rst (s : State) (x : Snapshot) : (s.setSnap x).rst = s.rst := rfl
@[simp] theorem setSnap_pins (s : State) (x : Snapshot) : (s.setSnap x).pins = s.pins := rfl
@[simp] theorem setSnap_lrx (s : State) (x : Snapshot) : (s.setSnap x).lrx = s.lrx := rfl
@[simp] theorem setSnap_rsq (s : State) (x : Snapshot) : (s.setSnap x).rsq = s.rsq := rfl
@[simp] theorem setSnap_ltx (s : State) (x : Snapshot) : (s.setSnap x).ltx = s.ltx := rfl
@[simp] theorem setSnap_own (s : State) (x : Snapshot) : (s.setSnap x).own = s.own := rfl
@[simp] theorem setSnap_view (s : State) (x : Snapshot) : (s.setSnap x).view = s.view := rfl
@[simp] theorem setSnap_snap (s : State) (x : Snapshot) : (s.setSnap x).snap = x := rfl
@[simp] theorem setSnap_pfu (s : State) (x : Snapshot) : (s.setSnap x).pfu = s.pfu := rfl
@[simp] theorem setSnap_slu (s : State) (x : Snapshot) : (s.setSnap x).slu = s.slu := rfl
@[simp] theorem setSnap_oc (s : State) (x : Snapshot) : (s.setSnap x).oc = s.oc := rfl
@[simp] theorem setSnap_cmon (s : State) (x : Snapshot) : (s.setSnap x).cmon = s.cmon := rfl
@[simp] theorem setSnap_au (s : State) (x : Snapshot) : (s.setSnap x).au = s.au := rfl
@[simp] theorem setSnap_lport (s : State) (x : Snapshot) : (s.setSnap x).lport = s.lport := rfl
@[simp] theorem setSnap_notices (s : State) (x : Snapshot) : (s.setSnap x).notices = s.notices := rfl
@[simp] theorem setSnap_freeCount (s : State) (x : Snapshot) : (s.setSnap x).freeCount = s.freeCount := rfl
@[simp] theorem setSnap_pending (s : State) (x : Snapshot) : (s.setSnap x).pending = s.pending := rfl
@[simp] theorem setSnap_setSnap (s : State) (x y : Snapshot) : (s.setSnap x).setSnap y = s.setSnap y := rfl
@[simp] theorem setSnap_self (s : State) : s.setSnap s.snap = s := rfl

/-! ### setPfu -/

@[simp] theorem setPfu_rst (s : State) (x : Pfu) : (s.setPfu x).rst = s.rst := rfl
@[simp] theorem setPfu_pins (s : State) (x : Pfu) : (s.setPfu x).pins = s.pins := rfl
@[simp] theorem setPfu_lrx (s : State) (x : Pfu) : (s.setPfu x).lrx = s.lrx := rfl
@[simp] theorem setPfu_rsq (s : State) (x : Pfu) : (s.setPfu x).rsq = s.rsq := rfl
@[simp] theorem setPfu_ltx (s : State) (x : Pfu) : (s.setPfu x).ltx = s.ltx := rfl
@[simp] theorem setPfu_own (s : State) (x : Pfu) : (s.setPfu x).own = s.own := rfl
@[simp] theorem setPfu_view (s : State) (x : Pfu) : (s.setPfu x).view = s.view := rfl
@[simp] theorem setPfu_snap (s : State) (x : Pfu) : (s.setPfu x).snap = s.snap := rfl
@[simp] theorem setPfu_pfu (s : State) (x : Pfu) : (s.setPfu x).pfu = x := rfl
@[simp] theorem setPfu_slu (s : State) (x : Pfu) : (s.setPfu x).slu = s.slu := rfl
@[simp] theorem setPfu_oc (s : State) (x : Pfu) : (s.setPfu x).oc = s.oc := rfl
@[simp] theorem setPfu_cmon (s : State) (x : Pfu) : (s.setPfu x).cmon = s.cmon := rfl
@[simp] theorem setPfu_au (s : State) (x : Pfu) : (s.setPfu x).au = s.au := rfl
@[simp] theorem setPfu_lport (s : State) (x : Pfu) : (s.setPfu x).lport = s.lport := rfl
@[simp] theorem setPfu_notices (s : State) (x : Pfu) : (s.setPfu x).notices = s.notices := rfl
@[simp] theorem setPfu_freeCount (s : State) (x : Pfu) : (s.setPfu x).freeCount = s.freeCount := rfl
@[simp] theorem setPfu_pending (s : State) (x : Pfu) : (s.setPfu x).pending = s.pending := rfl
@[simp] theorem setPfu_setPfu (s : State) (x y : Pfu) : (s.setPfu x).setPfu y = s.setPfu y := rfl
@[simp] theorem setPfu_self (s : State) : s.setPfu s.pfu = s := rfl

/-! ### setSlu -/

@[simp] theorem setSlu_rst (s : State) (x : Slu) : (s.setSlu x).rst = s.rst := rfl
@[simp] theorem setSlu_pins (s : State) (x : Slu) : (s.setSlu x).pins = s.pins := rfl
@[simp] theorem setSlu_lrx (s : State) (x : Slu) : (s.setSlu x).lrx = s.lrx := rfl
@[simp] theorem setSlu_rsq (s : State) (x : Slu) : (s.setSlu x).rsq = s.rsq := rfl
@[simp] theorem setSlu_ltx (s : State) (x : Slu) : (s.setSlu x).ltx = s.ltx := rfl
@[simp] theorem setSlu_own (s : State) (x : Slu) : (s.setSlu x).own = s.own := rfl
@[simp] theorem setSlu_view (s : State) (x : Slu) : (s.setSlu x).view = s.view := rfl
@[simp] theorem setSlu_snap (s : State) (x : Slu) : (s.setSlu x).snap = s.snap := rfl
@[simp] theorem setSlu_pfu (s : State) (x : Slu) : (s.setSlu x).pfu = s.pfu := rfl
@[simp] theorem setSlu_slu (s : State) (x : Slu) : (s.setSlu x).slu = x := rfl
@[simp] theorem setSlu_oc (s : State) (x : Slu) : (s.setSlu x).oc = s.oc := rfl
@[simp] theorem setSlu_cmon (s : State) (x : Slu) : (s.setSlu x).cmon = s.cmon := rfl
@[simp] theorem setSlu_au (s : State) (x : Slu) : (s.setSlu x).au = s.au := rfl
@[simp] theorem setSlu_lport (s : State) (x : Slu) : (s.setSlu x).lport = s.lport := rfl
@[simp] theorem setSlu_notices (s : State) (x : Slu) : (s.setSlu x).notices = s.notices := rfl
@[simp] theorem setSlu_freeCount (s : State) (x : Slu) : (s.setSlu x).freeCount = s.freeCount := rfl
@[simp] theorem setSlu_pending (s : State) (x : Slu) : (s.setSlu x).pending = s.pending := rfl
@[simp] theorem setSlu_setSlu (s : State) (x y : Slu) : (s.setSlu x).setSlu y = s.setSlu y := rfl
@[simp] theorem setSlu_self (s : State) : s.setSlu s.slu = s := rfl

/-! ### setOc -/

@[simp] theorem setOc_rst (s : State) (x : Oc) : (s.setOc x).rst = s.rst := rfl
@[simp] theorem setOc_pins (s : State) (x : Oc) : (s.setOc x).pins = s.pins := rfl
@[simp] theorem setOc_lrx (s : State) (x : Oc) : (s.setOc x).lrx = s.lrx := rfl
@[simp] theorem setOc_rsq (s : State) (x : Oc) : (s.setOc x).rsq = s.rsq := rfl
@[simp] theorem setOc_ltx (s : State) (x : Oc) : (s.setOc x).ltx = s.ltx := rfl
@[simp] theorem setOc_own (s : State) (x : Oc) : (s.setOc x).own = s.own := rfl
@[simp] theorem setOc_view (s : State) (x : Oc) : (s.setOc x).view = s.view := rfl
@[simp] theorem setOc_snap (s : State) (x : Oc) : (s.setOc x).snap = s.snap := rfl
@[simp] theorem setOc_pfu (s : State) (x : Oc) : (s.setOc x).pfu = s.pfu := rfl
@[simp] theorem setOc_slu (s : State) (x : Oc) : (s.setOc x).slu = s.slu := rfl
@[simp] theorem setOc_oc (s : State) (x : Oc) : (s.setOc x).oc = x := rfl
@[simp] theorem setOc_cmon (s : State) (x : Oc) : (s.setOc x).cmon = s.cmon := rfl
@[simp] theorem setOc_au (s : State) (x : Oc) : (s.setOc x).au = s.au := rfl
@[simp] theorem setOc_lport (s : State) (x : Oc) : (s.setOc x).lport = s.lport := rfl
@[simp] theorem setOc_notices (s : State) (x : Oc) : (s.setOc x).notices = s.notices := rfl
@[simp] theorem setOc_freeCount (s : State) (x : Oc) : (s.setOc x).freeCount = s.freeCount := rfl
@[simp] theorem setOc_pending (s : State) (x : Oc) : (s.setOc x).pending = s.pending := rfl
@[simp] theorem setOc_setOc (s : State) (x y : Oc) : (s.setOc x).setOc y = s.setOc y := rfl
@[simp] theorem setOc_self (s : State) : s.setOc s.oc = s := rfl

/-! ### setCmon -/

@[simp] theorem setCmon_rst (s : State) (x : Cmon) : (s.setCmon x).rst = s.rst := rfl
@[simp] theorem setCmon_pins (s : State) (x : Cmon) : (s.setCmon x).pins = s.pins := rfl
@[simp] theorem setCmon_lrx (s : State) (x : Cmon) : (s.setCmon x).lrx = s.lrx := rfl
@[simp] theorem setCmon_rsq (s : State) (x : Cmon) : (s.setCmon x).rsq = s.rsq := rfl
@[simp] theorem setCmon_ltx (s : State) (x : Cmon) : (s.setCmon x).ltx = s.ltx := rfl
@[simp] theorem setCmon_own (s : State) (x : Cmon) : (s.setCmon x).own = s.own := rfl
@[simp] theorem setCmon_view (s : State) (x : Cmon) : (s.setCmon x).view = s.view := rfl
@[simp] theorem setCmon_snap (s : State) (x : Cmon) : (s.setCmon x).snap = s.snap := rfl
@[simp] theorem setCmon_pfu (s : State) (x : Cmon) : (s.setCmon x).pfu = s.pfu := rfl
@[simp] theorem setCmon_slu (s : State) (x : Cmon) : (s.setCmon x).slu = s.slu := rfl
@[simp] theorem setCmon_oc (s : State) (x : Cmon) : (s.setCmon x).oc = s.oc := rfl
@[simp] theorem setCmon_cmon (s : State) (x : Cmon) : (s.setCmon x).cmon = x := rfl
@[simp] theorem setCmon_au (s : State) (x : Cmon) : (s.setCmon x).au = s.au := rfl
@[simp] theorem setCmon_lport (s : State) (x : Cmon) : (s.setCmon x).lport = s.lport := rfl
@[simp] theorem setCmon_notices (s : State) (x : Cmon) : (s.setCmon x).notices = s.notices := rfl
@[simp] theorem setCmon_freeCount (s : State) (x : Cmon) : (s.setCmon x).freeCount = s.freeCount := rfl
@[simp] theorem setCmon_pending (s : State) (x : Cmon) : (s.setCmon x).pending = s.pending := rfl
@[simp] theorem setCmon_setCmon (s : State) (x y : Cmon) : (s.setCmon x).setCmon y = s.setCmon y := rfl
@[simp] theorem setCmon_self (s : State) : s.setCmon s.cmon = s := rfl

/-! ### setAu -/

@[simp] theorem setAu_rst (s : State) (x : Au) : (s.setAu x).rst = s.rst := rfl
@[simp] theorem setAu_pins (s : State) (x : Au) : (s.setAu x).pins = s.pins := rfl
@[simp] theorem setAu_lrx (s : State) (x : Au) : (s.setAu x).lrx = s.lrx := rfl
@[simp] theorem setAu_rsq (s : State) (x : Au) : (s.setAu x).rsq = s.rsq := rfl
@[simp] theorem setAu_ltx (s : State) (x : Au) : (s.setAu x).ltx = s.ltx := rfl
@[simp] theorem setAu_own (s : State) (x : Au) : (s.setAu x).own = s.own := rfl
@[simp] theorem setAu_view (s : State) (x : Au) : (s.setAu x).view = s.view := rfl
@[simp] theorem setAu_snap (s : State) (x : Au) : (s.setAu x).snap = s.snap := rfl
@[simp] theorem setAu_pfu (s : State) (x : Au) : (s.setAu x).pfu = s.pfu := rfl
@[simp] theorem setAu_slu (s : State) (x : Au) : (s.setAu x).slu = s.slu := rfl
@[simp] theorem setAu_oc (s : State) (x : Au) : (s.setAu x).oc = s.oc := rfl
@[simp] theorem setAu_cmon (s : State) (x : Au) : (s.setAu x).cmon = s.cmon := rfl
@[simp] theorem setAu_au (s : State) (x : Au) : (s.setAu x).au = x := rfl
@[simp] theorem setAu_lport (s : State) (x : Au) : (s.setAu x).lport = s.lport := rfl
@[simp] theorem setAu_notices (s : State) (x : Au) : (s.setAu x).notices = s.notices := rfl
@[simp] theorem setAu_freeCount (s : State) (x : Au) : (s.setAu x).freeCount = s.freeCount := rfl
@[simp] theorem setAu_pending (s : State) (x : Au) : (s.setAu x).pending = s.pending := rfl
@[simp] theorem setAu_setAu (s : State) (x y : Au) : (s.setAu x).setAu y = s.setAu y := rfl
@[simp] theorem setAu_self (s : State) : s.setAu s.au = s := rfl

/-! ### setLport -/

@[simp] theorem setLport_rst (s : State) (x : Lport) : (s.setLport x).rst = s.rst := rfl
@[simp] theorem setLport_pins (s : State) (x : Lport) : (s.setLport x).pins = s.pins := rfl
@[simp] theorem setLport_lrx (s : State) (x : Lport) : (s.setLport x).lrx = s.lrx := rfl
@[simp] theorem setLport_rsq (s : State) (x : Lport) : (s.setLport x).rsq = s.rsq := rfl
@[simp] theorem setLport_ltx (s : State) (x : Lport) : (s.setLport x).ltx = s.ltx := rfl
@[simp] theorem setLport_own (s : State) (x : Lport) : (s.setLport x).own = s.own := rfl
@[simp] theorem setLport_view (s : State) (x : Lport) : (s.setLport x).view = s.view := rfl
@[simp] theorem setLport_snap (s : State) (x : Lport) : (s.setLport x).snap = s.snap := rfl
@[simp] theorem setLport_pfu (s : State) (x : Lport) : (s.setLport x).pfu = s.pfu := rfl
@[simp] theorem setLport_slu (s : State) (x : Lport) : (s.setLport x).slu = s.slu := rfl
@[simp] theorem setLport_oc (s : State) (x : Lport) : (s.setLport x).oc = s.oc := rfl
@[simp] theorem setLport_cmon (s : State) (x : Lport) : (s.setLport x).cmon = s.cmon := rfl
@[simp] theorem setLport_au (s : State) (x : Lport) : (s.setLport x).au = s.au := rfl
@[simp] theorem setLport_lport (s : State) (x : Lport) : (s.setLport x).lport = x := rfl
@[simp] theorem setLport_notices (s : State) (x : Lport) : (s.setLport x).notices = s.notices := rfl
@[simp] theorem setLport_freeCount (s : State) (x : Lport) : (s.setLport x).freeCount = s.freeCount := rfl
@[simp] theorem setLport_pending (s : State) (x : Lport) : (s.setLport x).pending = s.pending := rfl
@[simp] theorem setLport_setLport (s : State) (x y : Lport) : (s.setLport x).setLport y = s.setLport y := rfl
@[simp] theorem setLport_self (s : State) : s.setLport s.lport = s := rfl

/-! ### setNotices -/

@[simp] theorem setNotices_rst (s : State) (x : Notices) : (s.setNotices x).rst = s.rst := rfl
@[simp] theorem setNotices_pins (s : State) (x : Notices) : (s.setNotices x).pins = s.pins := rfl
@[simp] theorem setNotices_lrx (s : State) (x : Notices) : (s.setNotices x).lrx = s.lrx := rfl
@[simp] theorem setNotices_rsq (s : State) (x : Notices) : (s.setNotices x).rsq = s.rsq := rfl
@[simp] theorem setNotices_ltx (s : State) (x : Notices) : (s.setNotices x).ltx = s.ltx := rfl
@[simp] theorem setNotices_own (s : State) (x : Notices) : (s.setNotices x).own = s.own := rfl
@[simp] theorem setNotices_view (s : State) (x : Notices) : (s.setNotices x).view = s.view := rfl
@[simp] theorem setNotices_snap (s : State) (x : Notices) : (s.setNotices x).snap = s.snap := rfl
@[simp] theorem setNotices_pfu (s : State) (x : Notices) : (s.setNotices x).pfu = s.pfu := rfl
@[simp] theorem setNotices_slu (s : State) (x : Notices) : (s.setNotices x).slu = s.slu := rfl
@[simp] theorem setNotices_oc (s : State) (x : Notices) : (s.setNotices x).oc = s.oc := rfl
@[simp] theorem setNotices_cmon (s : State) (x : Notices) : (s.setNotices x).cmon = s.cmon := rfl
@[simp] theorem setNotices_au (s : State) (x : Notices) : (s.setNotices x).au = s.au := rfl
@[simp] theorem setNotices_lport (s : State) (x : Notices) : (s.setNotices x).lport = s.lport := rfl
@[simp] theorem setNotices_notices (s : State) (x : Notices) : (s.setNotices x).notices = x := rfl
@[simp] theorem setNotices_freeCount (s : State) (x : Notices) : (s.setNotices x).freeCount = s.freeCount := rfl
@[simp] theorem setNotices_pending (s : State) (x : Notices) : (s.setNotices x).pending = s.pending := rfl
@[simp] theorem setNotices_setNotices (s : State) (x y : Notices) : (s.setNotices x).setNotices y = s.setNotices y := rfl
@[simp] theorem setNotices_self (s : State) : s.setNotices s.notices = s := rfl

/-! ### setFreeCount -/

@[simp] theorem setFreeCount_rst (s : State) (x : Nat) : (s.setFreeCount x).rst = s.rst := rfl
@[simp] theorem setFreeCount_pins (s : State) (x : Nat) : (s.setFreeCount x).pins = s.pins := rfl
@[simp] theorem setFreeCount_lrx (s : State) (x : Nat) : (s.setFreeCount x).lrx = s.lrx := rfl
@[simp] theorem setFreeCount_rsq (s : State) (x : Nat) : (s.setFreeCount x).rsq = s.rsq := rfl
@[simp] theorem setFreeCount_ltx (s : State) (x : Nat) : (s.setFreeCount x).ltx = s.ltx := rfl
@[simp] theorem setFreeCount_own (s : State) (x : Nat) : (s.setFreeCount x).own = s.own := rfl
@[simp] theorem setFreeCount_view (s : State) (x : Nat) : (s.setFreeCount x).view = s.view := rfl
@[simp] theorem setFreeCount_snap (s : State) (x : Nat) : (s.setFreeCount x).snap = s.snap := rfl
@[simp] theorem setFreeCount_pfu (s : State) (x : Nat) : (s.setFreeCount x).pfu = s.pfu := rfl
@[simp] theorem setFreeCount_slu (s : State) (x : Nat) : (s.setFreeCount x).slu = s.slu := rfl
@[simp] theorem setFreeCount_oc (s : State) (x : Nat) : (s.setFreeCount x).oc = s.oc := rfl
@[simp] theorem setFreeCount_cmon (s : State) (x : Nat) : (s.setFreeCount x).cmon = s.cmon := rfl
@[simp] theorem setFreeCount_au (s : State) (x : Nat) : (s.setFreeCount x).au = s.au := rfl
@[simp] theorem setFreeCount_lport (s : State) (x : Nat) : (s.setFreeCount x).lport = s.lport := rfl
@[simp] theorem setFreeCount_notices (s : State) (x : Nat) : (s.setFreeCount x).notices = s.notices := rfl
@[simp] theorem setFreeCount_freeCount (s : State) (x : Nat) : (s.setFreeCount x).freeCount = x := rfl
@[simp] theorem setFreeCount_pending (s : State) (x : Nat) : (s.setFreeCount x).pending = s.pending := rfl
@[simp] theorem setFreeCount_setFreeCount (s : State) (x y : Nat) : (s.setFreeCount x).setFreeCount y = s.setFreeCount y := rfl
@[simp] theorem setFreeCount_self (s : State) : s.setFreeCount s.freeCount = s := rfl

/-! ### setPending -/

@[simp] theorem setPending_rst (s : State) (x : List Instr) : (s.setPending x).rst = s.rst := rfl
@[simp] theorem setPending_pins (s : State) (x : List Instr) : (s.setPending x).pins = s.pins := rfl
@[simp] theorem setPending_lrx (s : State) (x : List Instr) : (s.setPending x).lrx = s.lrx := rfl
@[simp] theorem setPending_rsq (s : State) (x : List Instr) : (s.setPending x).rsq = s.rsq := rfl
@[simp] theorem setPending_ltx (s : State) (x : List Instr) : (s.setPending x).ltx = s.ltx := rfl
@[simp] theorem setPending_own (s : State) (x : List Instr) : (s.setPending x).own = s.own := rfl
@[simp] theorem setPending_view (s : State) (x : List Instr) : (s.setPending x).view = s.view := rfl
@[simp] theorem setPending_snap (s : State) (x : List Instr) : (s.setPending x).snap = s.snap := rfl
@[simp] theorem setPending_pfu (s : State) (x : List Instr) : (s.setPending x).pfu = s.pfu := rfl
@[simp] theorem setPending_slu (s : State) (x : List Instr) : (s.setPending x).slu = s.slu := rfl
@[simp] theorem setPending_oc (s : State) (x : List Instr) : (s.setPending x).oc = s.oc := rfl
@[simp] theorem setPending_cmon (s : State) (x : List Instr) : (s.setPending x).cmon = s.cmon := rfl
@[simp] theorem setPending_au (s : State) (x : List Instr) : (s.setPending x).au = s.au := rfl
@[simp] theorem setPending_lport (s : State) (x : List Instr) : (s.setPending x).lport = s.lport := rfl
@[simp] theorem setPending_notices (s : State) (x : List Instr) : (s.setPending x).notices = s.notices := rfl
@[simp] theorem setPending_freeCount (s : State) (x : List Instr) : (s.setPending x).freeCount = s.freeCount := rfl
@[simp] theorem setPending_pending (s : State) (x : List Instr) : (s.setPending x).pending = x := rfl
@[simp] theorem setPending_setPending (s : State) (x y : List Instr) : (s.setPending x).setPending y = s.setPending y := rfl
@[simp] theorem setPending_self (s : State) : s.setPending s.pending = s := rfl

end Sys2Proof.Machine.State
end

