-- ==== Sys2Proof/Laws/Ops.lean ====
section
/-! SUPPORT. What the shared operations of the receive and transmit paths and of the alarms can do: which fields of State each
one leaves alone, and the values it gives. -/

namespace Sys2Proof.Machine

theorem expired_eq_true_iff (t : Option Nat) : expired t = true ↔ t = some 0 := by
  cases t <;> simp [expired]

theorem reached_eq_true_iff (t : Option Nat) (n : Nat) : reached t n = true ↔ ∃ m, t = some m ∧ n ≤ m := by
  cases t <;> simp [reached]

theorem bump_le (n : Nat) : bump n ≤ 65535 := Nat.min_le_left _ _

/-! ### Alarm kinds in a set -/

@[simp] theorem holdsKind_zero (k : AlarmKind) : holdsKind 0 k = false := by simp [holdsKind]

theorem holdsKind_set (k j : AlarmKind) : holdsKind k.set j = (j == k) := by cases k <;> cases j <;> decide

theorem holdsKind_or (v w : Word16) (k : AlarmKind) : holdsKind (v ||| w) k = (holdsKind v k || holdsKind w k) := by
  simp [holdsKind]

theorem holdsKind_and (v w : Word16) (k : AlarmKind) : holdsKind (v &&& w) k = (holdsKind v k && holdsKind w k) := by
  simp [holdsKind]

theorem holdsKind_not (w : Word16) (k : AlarmKind) : holdsKind (~~~w) k = !holdsKind w k := by
  cases k <;> simp [holdsKind, AlarmKind.bit]

/-! ### The pending set -/

namespace PendingSet

@[simp] theorem get_put_same (p : PendingSet) (k : FrameKind) (e : Option PendEntry) : (p.put k e).get k = e := by
  cases k <;> rfl

theorem get_put_other (p : PendingSet) (k j : FrameKind) (e : Option PendEntry) (h : j ≠ k) : (p.put k e).get j = p.get j := by
  cases k <;> cases j <;> first | rfl | exact absurd rfl h

@[simp] theorem get_empty (k : FrameKind) : PendingSet.empty.get k = none := by cases k <;> rfl

@[simp] theorem put_get_self (p : PendingSet) (k : FrameKind) : p.put k (p.get k) = p := by cases k <;> rfl

end PendingSet

namespace State

/-! ### Firing a cause -/

theorem fire_of_set (s : State) (k : AlarmKind) (h : holdsKind s.au.flags k = true) : s.fire k = s := by simp [fire, h]

/-- Firing changes the flags, and nothing else of the Alarm Unit. -/
theorem fire_au (s : State) (k : AlarmKind) : (s.fire k).au = { s.au with flags := (s.fire k).au.flags } := by
  unfold fire
  split
  · rfl
  · split <;> rfl

/-- A flag is set after the firing exactly when it was set before or is the one fired. -/
theorem holdsKind_fire (s : State) (k j : AlarmKind) :
    holdsKind (s.fire k).au.flags j = (holdsKind s.au.flags j || j == k) := by
  unfold fire
  split
  · rename_i h
    by_cases e : j = k
    · subst e; simp [h]
    · simp [e]
  · split <;> simp [giveAu, holdsKind_or, holdsKind_set]

/-- A second firing of the same cause changes nothing. -/
@[simp] theorem fire_fire (s : State) (k : AlarmKind) : (s.fire k).fire k = s.fire k :=
  fire_of_set _ _ (by simp [holdsKind_fire])

@[simp] theorem fire_notices_ltx (s : State) (k : AlarmKind) : (s.fire k).notices.ltx = s.notices.ltx := by
  unfold fire giveAu; (repeat' split) <;> simp

@[simp] theorem fire_notices_slu (s : State) (k : AlarmKind) : (s.fire k).notices.slu = s.notices.slu := by
  unfold fire giveAu; (repeat' split) <;> simp

@[simp] theorem fire_notices_pfu (s : State) (k : AlarmKind) : (s.fire k).notices.pfu = s.notices.pfu := by
  unfold fire giveAu; (repeat' split) <;> simp

@[simp] theorem fire_rst (s : State) (k : AlarmKind) : (s.fire k).rst = s.rst := by
  unfold State.fire State.giveAu; (repeat' split) <;> simp
@[simp] theorem fire_pins (s : State) (k : AlarmKind) : (s.fire k).pins = s.pins := by
  unfold State.fire State.giveAu; (repeat' split) <;> simp
@[simp] theorem fire_lrx (s : State) (k : AlarmKind) : (s.fire k).lrx = s.lrx := by
  unfold State.fire State.giveAu; (repeat' split) <;> simp
@[simp] theorem fire_rsq (s : State) (k : AlarmKind) : (s.fire k).rsq = s.rsq := by
  unfold State.fire State.giveAu; (repeat' split) <;> simp
@[simp] theorem fire_ltx (s : State) (k : AlarmKind) : (s.fire k).ltx = s.ltx := by
  unfold State.fire State.giveAu; (repeat' split) <;> simp
@[simp] theorem fire_own (s : State) (k : AlarmKind) : (s.fire k).own = s.own := by
  unfold State.fire State.giveAu; (repeat' split) <;> simp
@[simp] theorem fire_view (s : State) (k : AlarmKind) : (s.fire k).view = s.view := by
  unfold State.fire State.giveAu; (repeat' split) <;> simp
@[simp] theorem fire_snap (s : State) (k : AlarmKind) : (s.fire k).snap = s.snap := by
  unfold State.fire State.giveAu; (repeat' split) <;> simp
@[simp] theorem fire_pfu (s : State) (k : AlarmKind) : (s.fire k).pfu = s.pfu := by
  unfold State.fire State.giveAu; (repeat' split) <;> simp
@[simp] theorem fire_slu (s : State) (k : AlarmKind) : (s.fire k).slu = s.slu := by
  unfold State.fire State.giveAu; (repeat' split) <;> simp
@[simp] theorem fire_oc (s : State) (k : AlarmKind) : (s.fire k).oc = s.oc := by
  unfold State.fire State.giveAu; (repeat' split) <;> simp
@[simp] theorem fire_cmon (s : State) (k : AlarmKind) : (s.fire k).cmon = s.cmon := by
  unfold State.fire State.giveAu; (repeat' split) <;> simp
@[simp] theorem fire_lport (s : State) (k : AlarmKind) : (s.fire k).lport = s.lport := by
  unfold State.fire State.giveAu; (repeat' split) <;> simp
@[simp] theorem fire_freeCount (s : State) (k : AlarmKind) : (s.fire k).freeCount = s.freeCount := by
  unfold State.fire State.giveAu; (repeat' split) <;> simp
@[simp] theorem fire_pending (s : State) (k : AlarmKind) : (s.fire k).pending = s.pending := by
  unfold State.fire State.giveAu; (repeat' split) <;> simp

/-! ### Requests to the Link Transmitter -/

theorem request_of_ignored (s : State) (k : FrameKind) (h : s.requestTaken k = false) : s.request k = s := by
  simp [request, h]

/-- A request changes the pending set, and nothing else of the Link Transmitter. -/
theorem request_ltx (s : State) (k : FrameKind) : (s.request k).ltx = { s.ltx with pend := (s.request k).ltx.pend } := by
  unfold request setPend
  split
  · split
    · rfl
    · split <;> rfl
  · rfl

/-- A request leaves the stay of every other kind alone. -/
theorem request_pend_other (s : State) (k j : FrameKind) (h : j ≠ k) : (s.request k).ltx.pend.get j = s.ltx.pend.get j := by
  unfold request setPend
  (repeat' split) <;> simp [PendingSet.get_put_other, h]

@[simp] theorem request_rst (s : State) (k : FrameKind) : (s.request k).rst = s.rst := by
  unfold State.request State.setPend; (repeat' split) <;> simp
@[simp] theorem request_pins (s : State) (k : FrameKind) : (s.request k).pins = s.pins := by
  unfold State.request State.setPend; (repeat' split) <;> simp
@[simp] theorem request_lrx (s : State) (k : FrameKind) : (s.request k).lrx = s.lrx := by
  unfold State.request State.setPend; (repeat' split) <;> simp
@[simp] theorem request_rsq (s : State) (k : FrameKind) : (s.request k).rsq = s.rsq := by
  unfold State.request State.setPend; (repeat' split) <;> simp
@[simp] theorem request_own (s : State) (k : FrameKind) : (s.request k).own = s.own := by
  unfold State.request State.setPend; (repeat' split) <;> simp
@[simp] theorem request_view (s : State) (k : FrameKind) : (s.request k).view = s.view := by
  unfold State.request State.setPend; (repeat' split) <;> simp
@[simp] theorem request_snap (s : State) (k : FrameKind) : (s.request k).snap = s.snap := by
  unfold State.request State.setPend; (repeat' split) <;> simp
@[simp] theorem request_pfu (s : State) (k : FrameKind) : (s.request k).pfu = s.pfu := by
  unfold State.request State.setPend; (repeat' split) <;> simp
@[simp] theorem request_slu (s : State) (k : FrameKind) : (s.request k).slu = s.slu := by
  unfold State.request State.setPend; (repeat' split) <;> simp
@[simp] theorem request_oc (s : State) (k : FrameKind) : (s.request k).oc = s.oc := by
  unfold State.request State.setPend; (repeat' split) <;> simp
@[simp] theorem request_cmon (s : State) (k : FrameKind) : (s.request k).cmon = s.cmon := by
  unfold State.request State.setPend; (repeat' split) <;> simp
@[simp] theorem request_au (s : State) (k : FrameKind) : (s.request k).au = s.au := by
  unfold State.request State.setPend; (repeat' split) <;> simp
@[simp] theorem request_lport (s : State) (k : FrameKind) : (s.request k).lport = s.lport := by
  unfold State.request State.setPend; (repeat' split) <;> simp
@[simp] theorem request_notices (s : State) (k : FrameKind) : (s.request k).notices = s.notices := by
  unfold State.request State.setPend; (repeat' split) <;> simp
@[simp] theorem request_freeCount (s : State) (k : FrameKind) : (s.request k).freeCount = s.freeCount := by
  unfold State.request State.setPend; (repeat' split) <;> simp
@[simp] theorem request_pending (s : State) (k : FrameKind) : (s.request k).pending = s.pending := by
  unfold State.request State.setPend; (repeat' split) <;> simp

@[simp] theorem requestIntent_rst (s : State) : (s.requestIntent).rst = s.rst := by
  simp [requestIntent]
@[simp] theorem requestIntent_pins (s : State) : (s.requestIntent).pins = s.pins := by
  simp [requestIntent]
@[simp] theorem requestIntent_lrx (s : State) : (s.requestIntent).lrx = s.lrx := by
  simp [requestIntent]
@[simp] theorem requestIntent_rsq (s : State) : (s.requestIntent).rsq = s.rsq := by
  simp [requestIntent]
@[simp] theorem requestIntent_own (s : State) : (s.requestIntent).own = s.own := by
  simp [requestIntent]
@[simp] theorem requestIntent_view (s : State) : (s.requestIntent).view = s.view := by
  simp [requestIntent]
@[simp] theorem requestIntent_snap (s : State) : (s.requestIntent).snap = s.snap := by
  simp [requestIntent]
@[simp] theorem requestIntent_pfu (s : State) : (s.requestIntent).pfu = s.pfu := by
  simp [requestIntent]
@[simp] theorem requestIntent_slu (s : State) : (s.requestIntent).slu = s.slu := by
  simp [requestIntent]
@[simp] theorem requestIntent_oc (s : State) : (s.requestIntent).oc = s.oc := by
  simp [requestIntent]
@[simp] theorem requestIntent_cmon (s : State) : (s.requestIntent).cmon = s.cmon := by
  simp [requestIntent]
@[simp] theorem requestIntent_au (s : State) : (s.requestIntent).au = s.au := by
  simp [requestIntent]
@[simp] theorem requestIntent_lport (s : State) : (s.requestIntent).lport = s.lport := by
  simp [requestIntent]
@[simp] theorem requestIntent_notices (s : State) : (s.requestIntent).notices = s.notices := by
  simp [requestIntent]
@[simp] theorem requestIntent_freeCount (s : State) : (s.requestIntent).freeCount = s.freeCount := by
  simp [requestIntent]
@[simp] theorem requestIntent_pending (s : State) : (s.requestIntent).pending = s.pending := by
  simp [requestIntent]

@[simp] theorem recallIntent_rst (s : State) : (s.recallIntent).rst = s.rst := by
  unfold State.recallIntent State.setPend State.giveLtx; (repeat' split) <;> simp
@[simp] theorem recallIntent_pins (s : State) : (s.recallIntent).pins = s.pins := by
  unfold State.recallIntent State.setPend State.giveLtx; (repeat' split) <;> simp
@[simp] theorem recallIntent_lrx (s : State) : (s.recallIntent).lrx = s.lrx := by
  unfold State.recallIntent State.setPend State.giveLtx; (repeat' split) <;> simp
@[simp] theorem recallIntent_rsq (s : State) : (s.recallIntent).rsq = s.rsq := by
  unfold State.recallIntent State.setPend State.giveLtx; (repeat' split) <;> simp
@[simp] theorem recallIntent_own (s : State) : (s.recallIntent).own = s.own := by
  unfold State.recallIntent State.setPend State.giveLtx; (repeat' split) <;> simp
@[simp] theorem recallIntent_view (s : State) : (s.recallIntent).view = s.view := by
  unfold State.recallIntent State.setPend State.giveLtx; (repeat' split) <;> simp
@[simp] theorem recallIntent_snap (s : State) : (s.recallIntent).snap = s.snap := by
  unfold State.recallIntent State.setPend State.giveLtx; (repeat' split) <;> simp
@[simp] theorem recallIntent_pfu (s : State) : (s.recallIntent).pfu = s.pfu := by
  unfold State.recallIntent State.setPend State.giveLtx; (repeat' split) <;> simp
@[simp] theorem recallIntent_slu (s : State) : (s.recallIntent).slu = s.slu := by
  unfold State.recallIntent State.setPend State.giveLtx; (repeat' split) <;> simp
@[simp] theorem recallIntent_oc (s : State) : (s.recallIntent).oc = s.oc := by
  unfold State.recallIntent State.setPend State.giveLtx; (repeat' split) <;> simp
@[simp] theorem recallIntent_cmon (s : State) : (s.recallIntent).cmon = s.cmon := by
  unfold State.recallIntent State.setPend State.giveLtx; (repeat' split) <;> simp
@[simp] theorem recallIntent_au (s : State) : (s.recallIntent).au = s.au := by
  unfold State.recallIntent State.setPend State.giveLtx; (repeat' split) <;> simp
@[simp] theorem recallIntent_lport (s : State) : (s.recallIntent).lport = s.lport := by
  unfold State.recallIntent State.setPend State.giveLtx; (repeat' split) <;> simp
@[simp] theorem recallIntent_freeCount (s : State) : (s.recallIntent).freeCount = s.freeCount := by
  unfold State.recallIntent State.setPend State.giveLtx; (repeat' split) <;> simp
@[simp] theorem recallIntent_pending (s : State) : (s.recallIntent).pending = s.pending := by
  unfold State.recallIntent State.setPend State.giveLtx; (repeat' split) <;> simp

/-! ### The level on SDL -/

@[simp] theorem setLrxState_lrx (s : State) (x : LrxState) : (s.setLrxState x).lrx = { s.lrx with state := x } := rfl
@[simp] theorem setLrxState_rst (s : State) (x : LrxState) : (s.setLrxState x).rst = s.rst := rfl
@[simp] theorem setLrxState_pins (s : State) (x : LrxState) : (s.setLrxState x).pins = s.pins := rfl
@[simp] theorem setLrxState_rsq (s : State) (x : LrxState) : (s.setLrxState x).rsq = s.rsq := rfl
@[simp] theorem setLrxState_ltx (s : State) (x : LrxState) : (s.setLrxState x).ltx = s.ltx := rfl
@[simp] theorem setLrxState_own (s : State) (x : LrxState) : (s.setLrxState x).own = s.own := rfl
@[simp] theorem setLrxState_view (s : State) (x : LrxState) : (s.setLrxState x).view = s.view := rfl
@[simp] theorem setLrxState_snap (s : State) (x : LrxState) : (s.setLrxState x).snap = s.snap := rfl
@[simp] theorem setLrxState_pfu (s : State) (x : LrxState) : (s.setLrxState x).pfu = s.pfu := rfl
@[simp] theorem setLrxState_slu (s : State) (x : LrxState) : (s.setLrxState x).slu = s.slu := rfl
@[simp] theorem setLrxState_oc (s : State) (x : LrxState) : (s.setLrxState x).oc = s.oc := rfl
@[simp] theorem setLrxState_cmon (s : State) (x : LrxState) : (s.setLrxState x).cmon = s.cmon := rfl
@[simp] theorem setLrxState_au (s : State) (x : LrxState) : (s.setLrxState x).au = s.au := rfl
@[simp] theorem setLrxState_lport (s : State) (x : LrxState) : (s.setLrxState x).lport = s.lport := rfl
@[simp] theorem setLrxState_notices (s : State) (x : LrxState) : (s.setLrxState x).notices = s.notices := rfl
@[simp] theorem setLrxState_freeCount (s : State) (x : LrxState) : (s.setLrxState x).freeCount = s.freeCount := rfl
@[simp] theorem setLrxState_pending (s : State) (x : LrxState) : (s.setLrxState x).pending = s.pending := rfl

theorem awaitsIdle_eq_true_iff (s : State) :
    s.awaitsIdle = true ↔ s.lrx.state = .discard ∨ s.lrx.state = .hunt false ∨ ∃ age, s.lrx.state = .starting age := by
  unfold awaitsIdle; split <;> simp_all

theorem lineIdle_eq_true_iff (s : State) :
    s.lineIdle = true ↔ (s.pins.sdl = none ∧ (s.ltx.edgeUntold = true ∨ 2 * s.bitTime ≤ s.ltx.recessive)) ∨
      ∃ t, s.pins.sdl = some t ∧ 2 * s.bitTime ≤ t := by
  unfold lineIdle
  cases h : s.pins.sdl <;> simp

theorem lineIdleDue_eq_true_iff (s : State) :
    s.lineIdleDue = true ↔ s.pins.sdl = none ∧ 2 * s.bitTime ≤ s.ltx.recessive ∧
      (s.lrx.state = .discard ∨ s.lrx.state = .hunt false ∨ ∃ age, s.lrx.state = .starting age) := by
  unfold lineIdleDue
  cases h : s.pins.sdl <;> simp [awaitsIdle_eq_true_iff]

theorem mayOpen_eq_true_iff (s : State) (age : Nat) :
    s.mayOpen age = true ↔ s.bitTime ≤ 4 * age ∧ 4 * age < 9 * s.bitTime := by simp [mayOpen]

theorem seesIdle_of_due (s : State) (h : s.lineIdleDue = true) : s.seesIdle = s.setLrxState (.hunt true) := if_pos h

theorem seesIdle_of_not_due (s : State) (h : s.lineIdleDue = false) : s.seesIdle = s := by simp [seesIdle, h]

/-- Seeing idle changes nothing but the receive state. -/
theorem seesIdle_cases (s : State) : s.seesIdle = s ∨ s.seesIdle = s.setLrxState (.hunt true) := by
  unfold seesIdle; split
  · exact Or.inr rfl
  · exact Or.inl rfl

@[simp] theorem seesIdle_checkOnly (s : State) : s.seesIdle.lrx.checkOnly = s.lrx.checkOnly := by unfold seesIdle; split <;> rfl
@[simp] theorem seesIdle_lineCount (s : State) : s.seesIdle.lrx.lineCount = s.lrx.lineCount := by unfold seesIdle; split <;> rfl
@[simp] theorem seesIdle_rst (s : State) : s.seesIdle.rst = s.rst := by unfold seesIdle; split <;> rfl
@[simp] theorem seesIdle_pins (s : State) : s.seesIdle.pins = s.pins := by unfold seesIdle; split <;> rfl
@[simp] theorem seesIdle_rsq (s : State) : s.seesIdle.rsq = s.rsq := by unfold seesIdle; split <;> rfl
@[simp] theorem seesIdle_ltx (s : State) : s.seesIdle.ltx = s.ltx := by unfold seesIdle; split <;> rfl
@[simp] theorem seesIdle_own (s : State) : s.seesIdle.own = s.own := by unfold seesIdle; split <;> rfl
@[simp] theorem seesIdle_view (s : State) : s.seesIdle.view = s.view := by unfold seesIdle; split <;> rfl
@[simp] theorem seesIdle_snap (s : State) : s.seesIdle.snap = s.snap := by unfold seesIdle; split <;> rfl
@[simp] theorem seesIdle_pfu (s : State) : s.seesIdle.pfu = s.pfu := by unfold seesIdle; split <;> rfl
@[simp] theorem seesIdle_slu (s : State) : s.seesIdle.slu = s.slu := by unfold seesIdle; split <;> rfl
@[simp] theorem seesIdle_oc (s : State) : s.seesIdle.oc = s.oc := by unfold seesIdle; split <;> rfl
@[simp] theorem seesIdle_cmon (s : State) : s.seesIdle.cmon = s.cmon := by unfold seesIdle; split <;> rfl
@[simp] theorem seesIdle_au (s : State) : s.seesIdle.au = s.au := by unfold seesIdle; split <;> rfl
@[simp] theorem seesIdle_lport (s : State) : s.seesIdle.lport = s.lport := by unfold seesIdle; split <;> rfl
@[simp] theorem seesIdle_notices (s : State) : s.seesIdle.notices = s.notices := by unfold seesIdle; split <;> rfl
@[simp] theorem seesIdle_freeCount (s : State) : s.seesIdle.freeCount = s.freeCount := by unfold seesIdle; split <;> rfl
@[simp] theorem seesIdle_pending (s : State) : s.seesIdle.pending = s.pending := by unfold seesIdle; split <;> rfl

theorem sdlTwoCellsRecessive_pins (s : State) : s.sdlTwoCellsRecessive.pins = { s.pins with sdl := none } := rfl
theorem sdlTwoCellsRecessive_ltx (s : State) :
    s.sdlTwoCellsRecessive.ltx = { s.ltx with recessive := 2 * s.bitTime, edgeUntold := false } := rfl
@[simp] theorem sdlTwoCellsRecessive_rst (s : State) : s.sdlTwoCellsRecessive.rst = s.rst := rfl
@[simp] theorem sdlTwoCellsRecessive_lrx (s : State) : s.sdlTwoCellsRecessive.lrx = s.lrx := rfl
@[simp] theorem sdlTwoCellsRecessive_rsq (s : State) : s.sdlTwoCellsRecessive.rsq = s.rsq := rfl
@[simp] theorem sdlTwoCellsRecessive_own (s : State) : s.sdlTwoCellsRecessive.own = s.own := rfl
@[simp] theorem sdlTwoCellsRecessive_view (s : State) : s.sdlTwoCellsRecessive.view = s.view := rfl
@[simp] theorem sdlTwoCellsRecessive_snap (s : State) : s.sdlTwoCellsRecessive.snap = s.snap := rfl
@[simp] theorem sdlTwoCellsRecessive_pfu (s : State) : s.sdlTwoCellsRecessive.pfu = s.pfu := rfl
@[simp] theorem sdlTwoCellsRecessive_slu (s : State) : s.sdlTwoCellsRecessive.slu = s.slu := rfl
@[simp] theorem sdlTwoCellsRecessive_oc (s : State) : s.sdlTwoCellsRecessive.oc = s.oc := rfl
@[simp] theorem sdlTwoCellsRecessive_cmon (s : State) : s.sdlTwoCellsRecessive.cmon = s.cmon := rfl
@[simp] theorem sdlTwoCellsRecessive_au (s : State) : s.sdlTwoCellsRecessive.au = s.au := rfl
@[simp] theorem sdlTwoCellsRecessive_lport (s : State) : s.sdlTwoCellsRecessive.lport = s.lport := rfl
@[simp] theorem sdlTwoCellsRecessive_notices (s : State) : s.sdlTwoCellsRecessive.notices = s.notices := rfl
@[simp] theorem sdlTwoCellsRecessive_freeCount (s : State) : s.sdlTwoCellsRecessive.freeCount = s.freeCount := rfl
@[simp] theorem sdlTwoCellsRecessive_pending (s : State) : s.sdlTwoCellsRecessive.pending = s.pending := rfl

theorem sdlIdle_of_recessive (s : State) (h : s.pins.sdl = none) (ht : 2 * s.bitTime ≤ s.ltx.recessive) : s.sdlIdle = s := by
  simp [sdlIdle, h, ht]

theorem sdlIdle_of_short (s : State) (h : s.ltx.recessive < 2 * s.bitTime) : s.sdlIdle = s.sdlTwoCellsRecessive := by
  simp [sdlIdle, h]

theorem sdlIdle_of_dominant (s : State) (t : Nat) (h : s.pins.sdl = some t) : s.sdlIdle = s.sdlTwoCellsRecessive := by
  simp [sdlIdle, h]

@[simp] theorem sdlIdle_rst (s : State) : s.sdlIdle.rst = s.rst := by unfold sdlIdle; split <;> rfl
@[simp] theorem sdlIdle_lrx (s : State) : s.sdlIdle.lrx = s.lrx := by unfold sdlIdle; split <;> rfl
@[simp] theorem sdlIdle_rsq (s : State) : s.sdlIdle.rsq = s.rsq := by unfold sdlIdle; split <;> rfl
@[simp] theorem sdlIdle_own (s : State) : s.sdlIdle.own = s.own := by unfold sdlIdle; split <;> rfl
@[simp] theorem sdlIdle_view (s : State) : s.sdlIdle.view = s.view := by unfold sdlIdle; split <;> rfl
@[simp] theorem sdlIdle_snap (s : State) : s.sdlIdle.snap = s.snap := by unfold sdlIdle; split <;> rfl
@[simp] theorem sdlIdle_pfu (s : State) : s.sdlIdle.pfu = s.pfu := by unfold sdlIdle; split <;> rfl
@[simp] theorem sdlIdle_slu (s : State) : s.sdlIdle.slu = s.slu := by unfold sdlIdle; split <;> rfl
@[simp] theorem sdlIdle_oc (s : State) : s.sdlIdle.oc = s.oc := by unfold sdlIdle; split <;> rfl
@[simp] theorem sdlIdle_cmon (s : State) : s.sdlIdle.cmon = s.cmon := by unfold sdlIdle; split <;> rfl
@[simp] theorem sdlIdle_au (s : State) : s.sdlIdle.au = s.au := by unfold sdlIdle; split <;> rfl
@[simp] theorem sdlIdle_lport (s : State) : s.sdlIdle.lport = s.lport := by unfold sdlIdle; split <;> rfl
@[simp] theorem sdlIdle_notices (s : State) : s.sdlIdle.notices = s.notices := by unfold sdlIdle; split <;> rfl
@[simp] theorem sdlIdle_freeCount (s : State) : s.sdlIdle.freeCount = s.freeCount := by unfold sdlIdle; split <;> rfl
@[simp] theorem sdlIdle_pending (s : State) : s.sdlIdle.pending = s.pending := by unfold sdlIdle; split <;> rfl

theorem sdlStarted_of_dominant (s : State) (t : Nat) (h : s.pins.sdl = some t) : s.sdlStarted = s := by simp [sdlStarted, h]

theorem sdlStarted_of_recessive (s : State) (h : s.pins.sdl = none) :
    s.sdlStarted = (s.setPins { s.pins with sdl := some (2 * s.bitTime) }).setLtx
      { s.ltx with recessive := 0, edgeUntold := false } := by
  simp [sdlStarted, h]

@[simp] theorem sdlStarted_rst (s : State) : s.sdlStarted.rst = s.rst := by unfold sdlStarted; split <;> rfl
@[simp] theorem sdlStarted_lrx (s : State) : s.sdlStarted.lrx = s.lrx := by unfold sdlStarted; split <;> rfl
@[simp] theorem sdlStarted_rsq (s : State) : s.sdlStarted.rsq = s.rsq := by unfold sdlStarted; split <;> rfl
@[simp] theorem sdlStarted_own (s : State) : s.sdlStarted.own = s.own := by unfold sdlStarted; split <;> rfl
@[simp] theorem sdlStarted_view (s : State) : s.sdlStarted.view = s.view := by unfold sdlStarted; split <;> rfl
@[simp] theorem sdlStarted_snap (s : State) : s.sdlStarted.snap = s.snap := by unfold sdlStarted; split <;> rfl
@[simp] theorem sdlStarted_pfu (s : State) : s.sdlStarted.pfu = s.pfu := by unfold sdlStarted; split <;> rfl
@[simp] theorem sdlStarted_slu (s : State) : s.sdlStarted.slu = s.slu := by unfold sdlStarted; split <;> rfl
@[simp] theorem sdlStarted_oc (s : State) : s.sdlStarted.oc = s.oc := by unfold sdlStarted; split <;> rfl
@[simp] theorem sdlStarted_cmon (s : State) : s.sdlStarted.cmon = s.cmon := by unfold sdlStarted; split <;> rfl
@[simp] theorem sdlStarted_au (s : State) : s.sdlStarted.au = s.au := by unfold sdlStarted; split <;> rfl
@[simp] theorem sdlStarted_lport (s : State) : s.sdlStarted.lport = s.lport := by unfold sdlStarted; split <;> rfl
@[simp] theorem sdlStarted_notices (s : State) : s.sdlStarted.notices = s.notices := by unfold sdlStarted; split <;> rfl
@[simp] theorem sdlStarted_freeCount (s : State) : s.sdlStarted.freeCount = s.freeCount := by unfold sdlStarted; split <;> rfl
@[simp] theorem sdlStarted_pending (s : State) : s.sdlStarted.pending = s.pending := by unfold sdlStarted; split <;> rfl

/-- Of LRX, a dominant level that begins changes only the receive state of HUNT. -/
theorem lrxAtDominant_cases (s : State) :
    (s.lrxAtDominant = s.lrx.state ∧ s.lrx.state ≠ .hunt true) ∨ (s.lrx.state = .hunt true ∧ s.lrxAtDominant = .starting 0) ∨
      ∃ age, s.lrx.state = .starting age ∧ s.mayOpen age = false ∧ s.lrxAtDominant = .hunt false := by
  unfold lrxAtDominant
  split
  · rename_i h; simp [h]
  · rename_i age h
    cases hm : s.mayOpen age <;> simp [h, hm]
  all_goals rename_i h; simp [h]

theorem sdlTurnsDominant_lrx (s : State) : s.sdlTurnsDominant.lrx = { s.lrx with state := s.lrxAtDominant } := rfl
theorem sdlTurnsDominant_pins (s : State) : s.sdlTurnsDominant.pins = { s.pins with sdl := some 0 } := rfl
theorem sdlTurnsDominant_ltx (s : State) :
    s.sdlTurnsDominant.ltx = { s.ltx with recessive := 0, recessiveBefore := s.ltx.recessive, edgeUntold := false } := rfl
@[simp] theorem sdlTurnsDominant_rst (s : State) : s.sdlTurnsDominant.rst = s.rst := rfl
@[simp] theorem sdlTurnsDominant_rsq (s : State) : s.sdlTurnsDominant.rsq = s.rsq := rfl
@[simp] theorem sdlTurnsDominant_own (s : State) : s.sdlTurnsDominant.own = s.own := rfl
@[simp] theorem sdlTurnsDominant_view (s : State) : s.sdlTurnsDominant.view = s.view := rfl
@[simp] theorem sdlTurnsDominant_snap (s : State) : s.sdlTurnsDominant.snap = s.snap := rfl
@[simp] theorem sdlTurnsDominant_pfu (s : State) : s.sdlTurnsDominant.pfu = s.pfu := rfl
@[simp] theorem sdlTurnsDominant_slu (s : State) : s.sdlTurnsDominant.slu = s.slu := rfl
@[simp] theorem sdlTurnsDominant_oc (s : State) : s.sdlTurnsDominant.oc = s.oc := rfl
@[simp] theorem sdlTurnsDominant_cmon (s : State) : s.sdlTurnsDominant.cmon = s.cmon := rfl
@[simp] theorem sdlTurnsDominant_au (s : State) : s.sdlTurnsDominant.au = s.au := rfl
@[simp] theorem sdlTurnsDominant_lport (s : State) : s.sdlTurnsDominant.lport = s.lport := rfl
@[simp] theorem sdlTurnsDominant_notices (s : State) : s.sdlTurnsDominant.notices = s.notices := rfl
@[simp] theorem sdlTurnsDominant_freeCount (s : State) : s.sdlTurnsDominant.freeCount = s.freeCount := rfl
@[simp] theorem sdlTurnsDominant_pending (s : State) : s.sdlTurnsDominant.pending = s.pending := rfl

theorem sdlReadsDominant_pins (s : State) : s.sdlReadsDominant.pins = { s.pins with sdl := some 0 } := rfl
theorem sdlReadsDominant_ltx (s : State) :
    s.sdlReadsDominant.ltx = { s.ltx with recessive := 0, recessiveBefore := 0, edgeUntold := false } := rfl
@[simp] theorem sdlReadsDominant_rst (s : State) : s.sdlReadsDominant.rst = s.rst := rfl
@[simp] theorem sdlReadsDominant_lrx (s : State) : s.sdlReadsDominant.lrx = s.lrx := rfl
@[simp] theorem sdlReadsDominant_rsq (s : State) : s.sdlReadsDominant.rsq = s.rsq := rfl
@[simp] theorem sdlReadsDominant_own (s : State) : s.sdlReadsDominant.own = s.own := rfl
@[simp] theorem sdlReadsDominant_view (s : State) : s.sdlReadsDominant.view = s.view := rfl
@[simp] theorem sdlReadsDominant_snap (s : State) : s.sdlReadsDominant.snap = s.snap := rfl
@[simp] theorem sdlReadsDominant_pfu (s : State) : s.sdlReadsDominant.pfu = s.pfu := rfl
@[simp] theorem sdlReadsDominant_slu (s : State) : s.sdlReadsDominant.slu = s.slu := rfl
@[simp] theorem sdlReadsDominant_oc (s : State) : s.sdlReadsDominant.oc = s.oc := rfl
@[simp] theorem sdlReadsDominant_cmon (s : State) : s.sdlReadsDominant.cmon = s.cmon := rfl
@[simp] theorem sdlReadsDominant_au (s : State) : s.sdlReadsDominant.au = s.au := rfl
@[simp] theorem sdlReadsDominant_lport (s : State) : s.sdlReadsDominant.lport = s.lport := rfl
@[simp] theorem sdlReadsDominant_notices (s : State) : s.sdlReadsDominant.notices = s.notices := rfl
@[simp] theorem sdlReadsDominant_freeCount (s : State) : s.sdlReadsDominant.freeCount = s.freeCount := rfl
@[simp] theorem sdlReadsDominant_pending (s : State) : s.sdlReadsDominant.pending = s.pending := rfl

theorem sdlReadsRecessive_pins (s : State) : s.sdlReadsRecessive.pins = { s.pins with sdl := none } := rfl
theorem sdlReadsRecessive_ltx (s : State) :
    s.sdlReadsRecessive.ltx = { s.ltx with edgeUntold := s.ltx.edgeUntold || s.pins.sdl.isSome } := rfl
@[simp] theorem sdlReadsRecessive_rst (s : State) : s.sdlReadsRecessive.rst = s.rst := rfl
@[simp] theorem sdlReadsRecessive_lrx (s : State) : s.sdlReadsRecessive.lrx = s.lrx := rfl
@[simp] theorem sdlReadsRecessive_rsq (s : State) : s.sdlReadsRecessive.rsq = s.rsq := rfl
@[simp] theorem sdlReadsRecessive_own (s : State) : s.sdlReadsRecessive.own = s.own := rfl
@[simp] theorem sdlReadsRecessive_view (s : State) : s.sdlReadsRecessive.view = s.view := rfl
@[simp] theorem sdlReadsRecessive_snap (s : State) : s.sdlReadsRecessive.snap = s.snap := rfl
@[simp] theorem sdlReadsRecessive_pfu (s : State) : s.sdlReadsRecessive.pfu = s.pfu := rfl
@[simp] theorem sdlReadsRecessive_slu (s : State) : s.sdlReadsRecessive.slu = s.slu := rfl
@[simp] theorem sdlReadsRecessive_oc (s : State) : s.sdlReadsRecessive.oc = s.oc := rfl
@[simp] theorem sdlReadsRecessive_cmon (s : State) : s.sdlReadsRecessive.cmon = s.cmon := rfl
@[simp] theorem sdlReadsRecessive_au (s : State) : s.sdlReadsRecessive.au = s.au := rfl
@[simp] theorem sdlReadsRecessive_lport (s : State) : s.sdlReadsRecessive.lport = s.lport := rfl
@[simp] theorem sdlReadsRecessive_notices (s : State) : s.sdlReadsRecessive.notices = s.notices := rfl
@[simp] theorem sdlReadsRecessive_freeCount (s : State) : s.sdlReadsRecessive.freeCount = s.freeCount := rfl
@[simp] theorem sdlReadsRecessive_pending (s : State) : s.sdlReadsRecessive.pending = s.pending := rfl

/-! ### The Receive Status Queue -/

theorem handRecord_of_checkOnly (s : State) (r : FrameRecord) (h : s.lrx.checkOnly = true) : s.handRecord r = s := by
  simp [handRecord, h]

@[simp] theorem handRecord_lport_config (s : State) (r : FrameRecord) : (s.handRecord r).lport.config = s.lport.config := by
  unfold handRecord appendRecord overrun setCounters; (repeat' split) <;> simp

@[simp] theorem handRecord_rst (s : State) (r : FrameRecord) : (s.handRecord r).rst = s.rst := by
  unfold handRecord appendRecord overrun setCounters; (repeat' split) <;> simp
@[simp] theorem handRecord_pins (s : State) (r : FrameRecord) : (s.handRecord r).pins = s.pins := by
  unfold handRecord appendRecord overrun setCounters; (repeat' split) <;> simp
@[simp] theorem handRecord_lrx (s : State) (r : FrameRecord) : (s.handRecord r).lrx = s.lrx := by
  unfold handRecord appendRecord overrun setCounters; (repeat' split) <;> simp
@[simp] theorem handRecord_ltx (s : State) (r : FrameRecord) : (s.handRecord r).ltx = s.ltx := by
  unfold handRecord appendRecord overrun setCounters; (repeat' split) <;> simp
@[simp] theorem handRecord_own (s : State) (r : FrameRecord) : (s.handRecord r).own = s.own := by
  unfold handRecord appendRecord overrun setCounters; (repeat' split) <;> simp
@[simp] theorem handRecord_view (s : State) (r : FrameRecord) : (s.handRecord r).view = s.view := by
  unfold handRecord appendRecord overrun setCounters; (repeat' split) <;> simp
@[simp] theorem handRecord_snap (s : State) (r : FrameRecord) : (s.handRecord r).snap = s.snap := by
  unfold handRecord appendRecord overrun setCounters; (repeat' split) <;> simp
@[simp] theorem handRecord_pfu (s : State) (r : FrameRecord) : (s.handRecord r).pfu = s.pfu := by
  unfold handRecord appendRecord overrun setCounters; (repeat' split) <;> simp
@[simp] theorem handRecord_slu (s : State) (r : FrameRecord) : (s.handRecord r).slu = s.slu := by
  unfold handRecord appendRecord overrun setCounters; (repeat' split) <;> simp
@[simp] theorem handRecord_oc (s : State) (r : FrameRecord) : (s.handRecord r).oc = s.oc := by
  unfold handRecord appendRecord overrun setCounters; (repeat' split) <;> simp
@[simp] theorem handRecord_cmon (s : State) (r : FrameRecord) : (s.handRecord r).cmon = s.cmon := by
  unfold handRecord appendRecord overrun setCounters; (repeat' split) <;> simp
@[simp] theorem handRecord_freeCount (s : State) (r : FrameRecord) : (s.handRecord r).freeCount = s.freeCount := by
  unfold handRecord appendRecord overrun setCounters; (repeat' split) <;> simp
@[simp] theorem handRecord_pending (s : State) (r : FrameRecord) : (s.handRecord r).pending = s.pending := by
  unfold handRecord appendRecord overrun setCounters; (repeat' split) <;> simp

/-! ### The end of an attempt -/

@[simp] theorem endRun_rst (s : State) : (s.endRun).rst = s.rst := by
  simp [endRun, disableLrx]
@[simp] theorem endRun_pins (s : State) : (s.endRun).pins = s.pins := by
  simp [endRun, disableLrx]
@[simp] theorem endRun_rsq (s : State) : (s.endRun).rsq = s.rsq := by
  simp [endRun, disableLrx]
@[simp] theorem endRun_own (s : State) : (s.endRun).own = s.own := by
  simp [endRun, disableLrx]
@[simp] theorem endRun_view (s : State) : (s.endRun).view = s.view := by
  simp [endRun, disableLrx]
@[simp] theorem endRun_snap (s : State) : (s.endRun).snap = s.snap := by
  simp [endRun, disableLrx]
@[simp] theorem endRun_pfu (s : State) : (s.endRun).pfu = s.pfu := by
  simp [endRun, disableLrx]
@[simp] theorem endRun_slu (s : State) : (s.endRun).slu = s.slu := by
  simp [endRun, disableLrx]
@[simp] theorem endRun_oc (s : State) : (s.endRun).oc = s.oc := by
  simp [endRun, disableLrx]
@[simp] theorem endRun_cmon (s : State) : (s.endRun).cmon = s.cmon := by
  simp [endRun, disableLrx]
@[simp] theorem endRun_au (s : State) : (s.endRun).au = s.au := by
  simp [endRun, disableLrx]
@[simp] theorem endRun_lport (s : State) : (s.endRun).lport = s.lport := by
  simp [endRun, disableLrx]
@[simp] theorem endRun_notices (s : State) : (s.endRun).notices = s.notices := by
  simp [endRun, disableLrx]
@[simp] theorem endRun_freeCount (s : State) : (s.endRun).freeCount = s.freeCount := by
  simp [endRun, disableLrx]
@[simp] theorem endRun_pending (s : State) : (s.endRun).pending = s.pending := by
  simp [endRun, disableLrx]

@[simp] theorem afterCheck_rst (s : State) (passed : Bool) : (s.afterCheck passed).rst = s.rst := by
  unfold afterCheck endJoinRun waitRun setPend giveLtx; (repeat' split) <;> simp
@[simp] theorem afterCheck_pins (s : State) (passed : Bool) : (s.afterCheck passed).pins = s.pins := by
  unfold afterCheck endJoinRun waitRun setPend giveLtx; (repeat' split) <;> simp
@[simp] theorem afterCheck_rsq (s : State) (passed : Bool) : (s.afterCheck passed).rsq = s.rsq := by
  unfold afterCheck endJoinRun waitRun setPend giveLtx; (repeat' split) <;> simp
@[simp] theorem afterCheck_own (s : State) (passed : Bool) : (s.afterCheck passed).own = s.own := by
  unfold afterCheck endJoinRun waitRun setPend giveLtx; (repeat' split) <;> simp
@[simp] theorem afterCheck_view (s : State) (passed : Bool) : (s.afterCheck passed).view = s.view := by
  unfold afterCheck endJoinRun waitRun setPend giveLtx; (repeat' split) <;> simp
@[simp] theorem afterCheck_snap (s : State) (passed : Bool) : (s.afterCheck passed).snap = s.snap := by
  unfold afterCheck endJoinRun waitRun setPend giveLtx; (repeat' split) <;> simp
@[simp] theorem afterCheck_pfu (s : State) (passed : Bool) : (s.afterCheck passed).pfu = s.pfu := by
  unfold afterCheck endJoinRun waitRun setPend giveLtx; (repeat' split) <;> simp
@[simp] theorem afterCheck_slu (s : State) (passed : Bool) : (s.afterCheck passed).slu = s.slu := by
  unfold afterCheck endJoinRun waitRun setPend giveLtx; (repeat' split) <;> simp
@[simp] theorem afterCheck_oc (s : State) (passed : Bool) : (s.afterCheck passed).oc = s.oc := by
  unfold afterCheck endJoinRun waitRun setPend giveLtx; (repeat' split) <;> simp
@[simp] theorem afterCheck_cmon (s : State) (passed : Bool) : (s.afterCheck passed).cmon = s.cmon := by
  unfold afterCheck endJoinRun waitRun setPend giveLtx; (repeat' split) <;> simp
@[simp] theorem afterCheck_au (s : State) (passed : Bool) : (s.afterCheck passed).au = s.au := by
  unfold afterCheck endJoinRun waitRun setPend giveLtx; (repeat' split) <;> simp
@[simp] theorem afterCheck_lport (s : State) (passed : Bool) : (s.afterCheck passed).lport = s.lport := by
  unfold afterCheck endJoinRun waitRun setPend giveLtx; (repeat' split) <;> simp
@[simp] theorem afterCheck_freeCount (s : State) (passed : Bool) : (s.afterCheck passed).freeCount = s.freeCount := by
  unfold afterCheck endJoinRun waitRun setPend giveLtx; (repeat' split) <;> simp
@[simp] theorem afterCheck_pending (s : State) (passed : Bool) : (s.afterCheck passed).pending = s.pending := by
  unfold afterCheck endJoinRun waitRun setPend giveLtx; (repeat' split) <;> simp

@[simp] theorem checkPasses_rst (s : State) : (s.checkPasses).rst = s.rst := by
  simp [checkPasses]
@[simp] theorem checkPasses_pins (s : State) : (s.checkPasses).pins = s.pins := by
  simp [checkPasses]
@[simp] theorem checkPasses_rsq (s : State) : (s.checkPasses).rsq = s.rsq := by
  simp [checkPasses]
@[simp] theorem checkPasses_own (s : State) : (s.checkPasses).own = s.own := by
  simp [checkPasses]
@[simp] theorem checkPasses_view (s : State) : (s.checkPasses).view = s.view := by
  simp [checkPasses]
@[simp] theorem checkPasses_snap (s : State) : (s.checkPasses).snap = s.snap := by
  simp [checkPasses]
@[simp] theorem checkPasses_pfu (s : State) : (s.checkPasses).pfu = s.pfu := by
  simp [checkPasses]
@[simp] theorem checkPasses_slu (s : State) : (s.checkPasses).slu = s.slu := by
  simp [checkPasses]
@[simp] theorem checkPasses_oc (s : State) : (s.checkPasses).oc = s.oc := by
  simp [checkPasses]
@[simp] theorem checkPasses_cmon (s : State) : (s.checkPasses).cmon = s.cmon := by
  simp [checkPasses]
@[simp] theorem checkPasses_au (s : State) : (s.checkPasses).au = s.au := by
  simp [checkPasses]
@[simp] theorem checkPasses_lport (s : State) : (s.checkPasses).lport = s.lport := by
  simp [checkPasses]
@[simp] theorem checkPasses_freeCount (s : State) : (s.checkPasses).freeCount = s.freeCount := by
  simp [checkPasses]
@[simp] theorem checkPasses_pending (s : State) : (s.checkPasses).pending = s.pending := by
  simp [checkPasses]

@[simp] theorem checkFails_rst (s : State) : (s.checkFails).rst = s.rst := by
  simp [checkFails]
@[simp] theorem checkFails_pins (s : State) : (s.checkFails).pins = s.pins := by
  simp [checkFails]
@[simp] theorem checkFails_rsq (s : State) : (s.checkFails).rsq = s.rsq := by
  simp [checkFails]
@[simp] theorem checkFails_own (s : State) : (s.checkFails).own = s.own := by
  simp [checkFails]
@[simp] theorem checkFails_view (s : State) : (s.checkFails).view = s.view := by
  simp [checkFails]
@[simp] theorem checkFails_snap (s : State) : (s.checkFails).snap = s.snap := by
  simp [checkFails]
@[simp] theorem checkFails_pfu (s : State) : (s.checkFails).pfu = s.pfu := by
  simp [checkFails]
@[simp] theorem checkFails_slu (s : State) : (s.checkFails).slu = s.slu := by
  simp [checkFails]
@[simp] theorem checkFails_oc (s : State) : (s.checkFails).oc = s.oc := by
  simp [checkFails]
@[simp] theorem checkFails_cmon (s : State) : (s.checkFails).cmon = s.cmon := by
  simp [checkFails]
@[simp] theorem checkFails_lport (s : State) : (s.checkFails).lport = s.lport := by
  simp [checkFails]
@[simp] theorem checkFails_freeCount (s : State) : (s.checkFails).freeCount = s.freeCount := by
  simp [checkFails]
@[simp] theorem checkFails_pending (s : State) : (s.checkFails).pending = s.pending := by
  simp [checkFails]

@[simp] theorem sentSettlesIntent_rst (s : State) (a : Attempt) : (s.sentSettlesIntent a).rst = s.rst := by
  unfold sentSettlesIntent; split <;> simp
@[simp] theorem sentSettlesIntent_pins (s : State) (a : Attempt) : (s.sentSettlesIntent a).pins = s.pins := by
  unfold sentSettlesIntent; split <;> simp
@[simp] theorem sentSettlesIntent_lrx (s : State) (a : Attempt) : (s.sentSettlesIntent a).lrx = s.lrx := by
  unfold sentSettlesIntent; split <;> simp
@[simp] theorem sentSettlesIntent_rsq (s : State) (a : Attempt) : (s.sentSettlesIntent a).rsq = s.rsq := by
  unfold sentSettlesIntent; split <;> simp
@[simp] theorem sentSettlesIntent_own (s : State) (a : Attempt) : (s.sentSettlesIntent a).own = s.own := by
  unfold sentSettlesIntent; split <;> simp
@[simp] theorem sentSettlesIntent_view (s : State) (a : Attempt) : (s.sentSettlesIntent a).view = s.view := by
  unfold sentSettlesIntent; split <;> simp
@[simp] theorem sentSettlesIntent_snap (s : State) (a : Attempt) : (s.sentSettlesIntent a).snap = s.snap := by
  unfold sentSettlesIntent; split <;> simp
@[simp] theorem sentSettlesIntent_pfu (s : State) (a : Attempt) : (s.sentSettlesIntent a).pfu = s.pfu := by
  unfold sentSettlesIntent; split <;> simp
@[simp] theorem sentSettlesIntent_slu (s : State) (a : Attempt) : (s.sentSettlesIntent a).slu = s.slu := by
  unfold sentSettlesIntent; split <;> simp
@[simp] theorem sentSettlesIntent_oc (s : State) (a : Attempt) : (s.sentSettlesIntent a).oc = s.oc := by
  unfold sentSettlesIntent; split <;> simp
@[simp] theorem sentSettlesIntent_cmon (s : State) (a : Attempt) : (s.sentSettlesIntent a).cmon = s.cmon := by
  unfold sentSettlesIntent; split <;> simp
@[simp] theorem sentSettlesIntent_au (s : State) (a : Attempt) : (s.sentSettlesIntent a).au = s.au := by
  unfold sentSettlesIntent; split <;> simp
@[simp] theorem sentSettlesIntent_lport (s : State) (a : Attempt) : (s.sentSettlesIntent a).lport = s.lport := by
  unfold sentSettlesIntent; split <;> simp
@[simp] theorem sentSettlesIntent_notices (s : State) (a : Attempt) : (s.sentSettlesIntent a).notices = s.notices := by
  unfold sentSettlesIntent; split <;> simp
@[simp] theorem sentSettlesIntent_freeCount (s : State) (a : Attempt) : (s.sentSettlesIntent a).freeCount = s.freeCount := by
  unfold sentSettlesIntent; split <;> simp
@[simp] theorem sentSettlesIntent_pending (s : State) (a : Attempt) : (s.sentSettlesIntent a).pending = s.pending := by
  unfold sentSettlesIntent; split <;> simp

@[simp] theorem sentLeavesSet_rst (s : State) (k : FrameKind) : (s.sentLeavesSet k).rst = s.rst := by
  unfold sentLeavesSet setPend; split <;> simp
@[simp] theorem sentLeavesSet_pins (s : State) (k : FrameKind) : (s.sentLeavesSet k).pins = s.pins := by
  unfold sentLeavesSet setPend; split <;> simp
@[simp] theorem sentLeavesSet_lrx (s : State) (k : FrameKind) : (s.sentLeavesSet k).lrx = s.lrx := by
  unfold sentLeavesSet setPend; split <;> simp
@[simp] theorem sentLeavesSet_rsq (s : State) (k : FrameKind) : (s.sentLeavesSet k).rsq = s.rsq := by
  unfold sentLeavesSet setPend; split <;> simp
@[simp] theorem sentLeavesSet_own (s : State) (k : FrameKind) : (s.sentLeavesSet k).own = s.own := by
  unfold sentLeavesSet setPend; split <;> simp
@[simp] theorem sentLeavesSet_view (s : State) (k : FrameKind) : (s.sentLeavesSet k).view = s.view := by
  unfold sentLeavesSet setPend; split <;> simp
@[simp] theorem sentLeavesSet_snap (s : State) (k : FrameKind) : (s.sentLeavesSet k).snap = s.snap := by
  unfold sentLeavesSet setPend; split <;> simp
@[simp] theorem sentLeavesSet_pfu (s : State) (k : FrameKind) : (s.sentLeavesSet k).pfu = s.pfu := by
  unfold sentLeavesSet setPend; split <;> simp
@[simp] theorem sentLeavesSet_slu (s : State) (k : FrameKind) : (s.sentLeavesSet k).slu = s.slu := by
  unfold sentLeavesSet setPend; split <;> simp
@[simp] theorem sentLeavesSet_oc (s : State) (k : FrameKind) : (s.sentLeavesSet k).oc = s.oc := by
  unfold sentLeavesSet setPend; split <;> simp
@[simp] theorem sentLeavesSet_cmon (s : State) (k : FrameKind) : (s.sentLeavesSet k).cmon = s.cmon := by
  unfold sentLeavesSet setPend; split <;> simp
@[simp] theorem sentLeavesSet_au (s : State) (k : FrameKind) : (s.sentLeavesSet k).au = s.au := by
  unfold sentLeavesSet setPend; split <;> simp
@[simp] theorem sentLeavesSet_lport (s : State) (k : FrameKind) : (s.sentLeavesSet k).lport = s.lport := by
  unfold sentLeavesSet setPend; split <;> simp
@[simp] theorem sentLeavesSet_notices (s : State) (k : FrameKind) : (s.sentLeavesSet k).notices = s.notices := by
  unfold sentLeavesSet setPend; split <;> simp
@[simp] theorem sentLeavesSet_freeCount (s : State) (k : FrameKind) : (s.sentLeavesSet k).freeCount = s.freeCount := by
  unfold sentLeavesSet setPend; split <;> simp
@[simp] theorem sentLeavesSet_pending (s : State) (k : FrameKind) : (s.sentLeavesSet k).pending = s.pending := by
  unfold sentLeavesSet setPend; split <;> simp

@[simp] theorem sentRestartsIsolation_rst (s : State) : (s.sentRestartsIsolation).rst = s.rst := by
  unfold sentRestartsIsolation giveLtx; (repeat' split) <;> simp
@[simp] theorem sentRestartsIsolation_pins (s : State) : (s.sentRestartsIsolation).pins = s.pins := by
  unfold sentRestartsIsolation giveLtx; (repeat' split) <;> simp
@[simp] theorem sentRestartsIsolation_lrx (s : State) : (s.sentRestartsIsolation).lrx = s.lrx := by
  unfold sentRestartsIsolation giveLtx; (repeat' split) <;> simp
@[simp] theorem sentRestartsIsolation_rsq (s : State) : (s.sentRestartsIsolation).rsq = s.rsq := by
  unfold sentRestartsIsolation giveLtx; (repeat' split) <;> simp
@[simp] theorem sentRestartsIsolation_own (s : State) : (s.sentRestartsIsolation).own = s.own := by
  unfold sentRestartsIsolation giveLtx; (repeat' split) <;> simp
@[simp] theorem sentRestartsIsolation_view (s : State) : (s.sentRestartsIsolation).view = s.view := by
  unfold sentRestartsIsolation giveLtx; (repeat' split) <;> simp
@[simp] theorem sentRestartsIsolation_snap (s : State) : (s.sentRestartsIsolation).snap = s.snap := by
  unfold sentRestartsIsolation giveLtx; (repeat' split) <;> simp
@[simp] theorem sentRestartsIsolation_pfu (s : State) : (s.sentRestartsIsolation).pfu = s.pfu := by
  unfold sentRestartsIsolation giveLtx; (repeat' split) <;> simp
@[simp] theorem sentRestartsIsolation_slu (s : State) : (s.sentRestartsIsolation).slu = s.slu := by
  unfold sentRestartsIsolation giveLtx; (repeat' split) <;> simp
@[simp] theorem sentRestartsIsolation_oc (s : State) : (s.sentRestartsIsolation).oc = s.oc := by
  unfold sentRestartsIsolation giveLtx; (repeat' split) <;> simp
@[simp] theorem sentRestartsIsolation_cmon (s : State) : (s.sentRestartsIsolation).cmon = s.cmon := by
  unfold sentRestartsIsolation giveLtx; (repeat' split) <;> simp
@[simp] theorem sentRestartsIsolation_au (s : State) : (s.sentRestartsIsolation).au = s.au := by
  unfold sentRestartsIsolation giveLtx; (repeat' split) <;> simp
@[simp] theorem sentRestartsIsolation_lport (s : State) : (s.sentRestartsIsolation).lport = s.lport := by
  unfold sentRestartsIsolation giveLtx; (repeat' split) <;> simp
@[simp] theorem sentRestartsIsolation_freeCount (s : State) : (s.sentRestartsIsolation).freeCount = s.freeCount := by
  unfold sentRestartsIsolation giveLtx; (repeat' split) <;> simp
@[simp] theorem sentRestartsIsolation_pending (s : State) : (s.sentRestartsIsolation).pending = s.pending := by
  unfold sentRestartsIsolation giveLtx; (repeat' split) <;> simp

@[simp] theorem attemptSent_rst (s : State) (good : Bool) : (s.attemptSent good).rst = s.rst := by
  unfold attemptSent giveLtx; (repeat' split) <;> simp
@[simp] theorem attemptSent_pins (s : State) (good : Bool) : (s.attemptSent good).pins = s.pins := by
  unfold attemptSent giveLtx; (repeat' split) <;> simp
@[simp] theorem attemptSent_rsq (s : State) (good : Bool) : (s.attemptSent good).rsq = s.rsq := by
  unfold attemptSent giveLtx; (repeat' split) <;> simp
@[simp] theorem attemptSent_own (s : State) (good : Bool) : (s.attemptSent good).own = s.own := by
  unfold attemptSent giveLtx; (repeat' split) <;> simp
@[simp] theorem attemptSent_view (s : State) (good : Bool) : (s.attemptSent good).view = s.view := by
  unfold attemptSent giveLtx; (repeat' split) <;> simp
@[simp] theorem attemptSent_snap (s : State) (good : Bool) : (s.attemptSent good).snap = s.snap := by
  unfold attemptSent giveLtx; (repeat' split) <;> simp
@[simp] theorem attemptSent_pfu (s : State) (good : Bool) : (s.attemptSent good).pfu = s.pfu := by
  unfold attemptSent giveLtx; (repeat' split) <;> simp
@[simp] theorem attemptSent_slu (s : State) (good : Bool) : (s.attemptSent good).slu = s.slu := by
  unfold attemptSent giveLtx; (repeat' split) <;> simp
@[simp] theorem attemptSent_oc (s : State) (good : Bool) : (s.attemptSent good).oc = s.oc := by
  unfold attemptSent giveLtx; (repeat' split) <;> simp
@[simp] theorem attemptSent_cmon (s : State) (good : Bool) : (s.attemptSent good).cmon = s.cmon := by
  unfold attemptSent giveLtx; (repeat' split) <;> simp
@[simp] theorem attemptSent_lport (s : State) (good : Bool) : (s.attemptSent good).lport = s.lport := by
  unfold attemptSent giveLtx; (repeat' split) <;> simp
@[simp] theorem attemptSent_freeCount (s : State) (good : Bool) : (s.attemptSent good).freeCount = s.freeCount := by
  unfold attemptSent giveLtx; (repeat' split) <;> simp
@[simp] theorem attemptSent_pending (s : State) (good : Bool) : (s.attemptSent good).pending = s.pending := by
  unfold attemptSent giveLtx; (repeat' split) <;> simp

@[simp] theorem attemptFailed_rst (s : State) (k : FrameKind) (raise : PendEntry → PendEntry) : (s.attemptFailed k raise).rst = s.rst := by
  unfold attemptFailed settleRecall dropKind setCounters setPend giveLtx; (repeat' split) <;> simp
@[simp] theorem attemptFailed_pins (s : State) (k : FrameKind) (raise : PendEntry → PendEntry) : (s.attemptFailed k raise).pins = s.pins := by
  unfold attemptFailed settleRecall dropKind setCounters setPend giveLtx; (repeat' split) <;> simp
@[simp] theorem attemptFailed_lrx (s : State) (k : FrameKind) (raise : PendEntry → PendEntry) : (s.attemptFailed k raise).lrx = s.lrx := by
  unfold attemptFailed settleRecall dropKind setCounters setPend giveLtx; (repeat' split) <;> simp
@[simp] theorem attemptFailed_rsq (s : State) (k : FrameKind) (raise : PendEntry → PendEntry) : (s.attemptFailed k raise).rsq = s.rsq := by
  unfold attemptFailed settleRecall dropKind setCounters setPend giveLtx; (repeat' split) <;> simp
@[simp] theorem attemptFailed_own (s : State) (k : FrameKind) (raise : PendEntry → PendEntry) : (s.attemptFailed k raise).own = s.own := by
  unfold attemptFailed settleRecall dropKind setCounters setPend giveLtx; (repeat' split) <;> simp
@[simp] theorem attemptFailed_view (s : State) (k : FrameKind) (raise : PendEntry → PendEntry) : (s.attemptFailed k raise).view = s.view := by
  unfold attemptFailed settleRecall dropKind setCounters setPend giveLtx; (repeat' split) <;> simp
@[simp] theorem attemptFailed_snap (s : State) (k : FrameKind) (raise : PendEntry → PendEntry) : (s.attemptFailed k raise).snap = s.snap := by
  unfold attemptFailed settleRecall dropKind setCounters setPend giveLtx; (repeat' split) <;> simp
@[simp] theorem attemptFailed_pfu (s : State) (k : FrameKind) (raise : PendEntry → PendEntry) : (s.attemptFailed k raise).pfu = s.pfu := by
  unfold attemptFailed settleRecall dropKind setCounters setPend giveLtx; (repeat' split) <;> simp
@[simp] theorem attemptFailed_slu (s : State) (k : FrameKind) (raise : PendEntry → PendEntry) : (s.attemptFailed k raise).slu = s.slu := by
  unfold attemptFailed settleRecall dropKind setCounters setPend giveLtx; (repeat' split) <;> simp
@[simp] theorem attemptFailed_oc (s : State) (k : FrameKind) (raise : PendEntry → PendEntry) : (s.attemptFailed k raise).oc = s.oc := by
  unfold attemptFailed settleRecall dropKind setCounters setPend giveLtx; (repeat' split) <;> simp
@[simp] theorem attemptFailed_cmon (s : State) (k : FrameKind) (raise : PendEntry → PendEntry) : (s.attemptFailed k raise).cmon = s.cmon := by
  unfold attemptFailed settleRecall dropKind setCounters setPend giveLtx; (repeat' split) <;> simp
@[simp] theorem attemptFailed_au (s : State) (k : FrameKind) (raise : PendEntry → PendEntry) : (s.attemptFailed k raise).au = s.au := by
  unfold attemptFailed settleRecall dropKind setCounters setPend giveLtx; (repeat' split) <;> simp
@[simp] theorem attemptFailed_freeCount (s : State) (k : FrameKind) (raise : PendEntry → PendEntry) : (s.attemptFailed k raise).freeCount = s.freeCount := by
  unfold attemptFailed settleRecall dropKind setCounters setPend giveLtx; (repeat' split) <;> simp
@[simp] theorem attemptFailed_pending (s : State) (k : FrameKind) (raise : PendEntry → PendEntry) : (s.attemptFailed k raise).pending = s.pending := by
  unfold attemptFailed settleRecall dropKind setCounters setPend giveLtx; (repeat' split) <;> simp

@[simp] theorem attemptFailed_lport_config (s : State) (k : FrameKind) (raise : PendEntry → PendEntry) :
    (s.attemptFailed k raise).lport.config = s.lport.config := by
  unfold attemptFailed settleRecall dropKind setCounters setPend giveLtx; (repeat' split) <;> simp

@[simp] theorem afterCheck_lineCount (s : State) (passed : Bool) : (s.afterCheck passed).lrx.lineCount = s.lrx.lineCount := by
  unfold afterCheck endJoinRun endRun disableLrx waitRun setPend giveLtx
  (repeat' split) <;> simp

@[simp] theorem attemptSent_lineCount (s : State) (good : Bool) : (s.attemptSent good).lrx.lineCount = s.lrx.lineCount := by
  unfold attemptSent checkPasses checkFails giveLtx
  (repeat' split) <;> simp

/-! ### The outputs -/

@[simp] theorem settle_rst (s : State) : (s.settle).rst = s.rst := by
  unfold settle settleComparator settleOutput settleLines; (repeat' split) <;> simp
@[simp] theorem settle_pins (s : State) : (s.settle).pins = s.pins := by
  unfold settle settleComparator settleOutput settleLines; (repeat' split) <;> simp
@[simp] theorem settle_lrx (s : State) : (s.settle).lrx = s.lrx := by
  unfold settle settleComparator settleOutput settleLines; (repeat' split) <;> simp
@[simp] theorem settle_rsq (s : State) : (s.settle).rsq = s.rsq := by
  unfold settle settleComparator settleOutput settleLines; (repeat' split) <;> simp
@[simp] theorem settle_ltx (s : State) : (s.settle).ltx = s.ltx := by
  unfold settle settleComparator settleOutput settleLines; (repeat' split) <;> simp
@[simp] theorem settle_own (s : State) : (s.settle).own = s.own := by
  unfold settle settleComparator settleOutput settleLines; (repeat' split) <;> simp
@[simp] theorem settle_view (s : State) : (s.settle).view = s.view := by
  unfold settle settleComparator settleOutput settleLines; (repeat' split) <;> simp
@[simp] theorem settle_snap (s : State) : (s.settle).snap = s.snap := by
  unfold settle settleComparator settleOutput settleLines; (repeat' split) <;> simp
@[simp] theorem settle_pfu (s : State) : (s.settle).pfu = s.pfu := by
  unfold settle settleComparator settleOutput settleLines; (repeat' split) <;> simp
@[simp] theorem settle_lport (s : State) : (s.settle).lport = s.lport := by
  unfold settle settleComparator settleOutput settleLines; (repeat' split) <;> simp
@[simp] theorem settle_notices (s : State) : (s.settle).notices = s.notices := by
  unfold settle settleComparator settleOutput settleLines; (repeat' split) <;> simp
@[simp] theorem settle_freeCount (s : State) : (s.settle).freeCount = s.freeCount := by
  unfold settle settleComparator settleOutput settleLines; (repeat' split) <;> simp
@[simp] theorem settle_pending (s : State) : (s.settle).pending = s.pending := by
  unfold settle settleComparator settleOutput settleLines; (repeat' split) <;> simp

/-- The outputs are in four units, and nothing else changes. -/
theorem settle_frame (s : State) : { s.settle with au := s.au, slu := s.slu, oc := s.oc, cmon := s.cmon } = s := by
  simp

theorem settle_au (s : State) : s.settle.au = { s.au with alert := s.alertOf } := by
  unfold settle settleComparator settleOutput settleLines
  split <;> rfl

theorem settle_slu (s : State) : s.settle.slu = { s.slu with driven := s.drivesShd } := by
  unfold settle settleComparator settleOutput settleLines
  split <;> rfl

theorem settle_oc (s : State) : s.settle.oc = { effRef := s.referenceClaim, gate := s.gateOf } := by
  unfold settle settleComparator settleOutput settleLines
  split <;> rfl

/-- Of the Current Monitor, the outputs change the grace value, the follow timer, the qualify count and the two marks of the
qualification. -/
theorem settle_cmon_frame (s : State) :
    { s.settle.cmon with
      grace := s.cmon.grace, follow := s.cmon.follow, qualify := s.cmon.qualify, armed := s.cmon.armed,
      reached := s.cmon.reached } = s.cmon := by
  unfold settle settleComparator settleOutput settleLines
  split <;> rfl

@[simp] theorem settle_blanking (s : State) : s.settle.cmon.blanking = s.cmon.blanking := by
  unfold settle settleComparator settleOutput settleLines
  split <;> rfl

@[simp] theorem settle_trip (s : State) : s.settle.cmon.trip = s.cmon.trip := by
  unfold settle settleComparator settleOutput settleLines
  split <;> rfl

theorem settle_grace (s : State) : s.settle.cmon.grace = (s.graceStep s.oc.effRef s.referenceClaim).1 := by
  unfold settle settleComparator settleOutput settleLines
  split <;> rfl

theorem settle_follow (s : State) : s.settle.cmon.follow = (s.graceStep s.oc.effRef s.referenceClaim).2 := by
  unfold settle settleComparator settleOutput settleLines
  split <;> rfl

/-- The comparator after the outputs have settled: the count and the marks are as before, or as when it is not over. -/
theorem settle_qualify (s : State) :
    s.settle.cmon.qualify = (if !s.settle.evaluated || (!s.settle.blanked && !s.settle.comparatorOver) then 0 else s.cmon.qualify) ∧
      s.settle.cmon.armed = (if !s.settle.evaluated || (!s.settle.blanked && !s.settle.comparatorOver) then true else s.cmon.armed) ∧
      s.settle.cmon.reached = (if !s.settle.evaluated || (!s.settle.blanked && !s.settle.comparatorOver) then false else s.cmon.reached) := by
  have h : ∀ t : State, (t.settleComparator.evaluated = t.evaluated) ∧ (t.settleComparator.blanked = t.blanked) ∧
      (t.settleComparator.comparatorOver = t.comparatorOver) := by
    intro t
    unfold settleComparator
    split <;> exact ⟨rfl, rfl, rfl⟩
  obtain ⟨h1, h2, h3⟩ := h s.settleLines.settleOutput
  have e : s.settle = s.settleLines.settleOutput.settleComparator := rfl
  rw [e, h1, h2, h3]
  unfold settleComparator
  split <;> exact ⟨rfl, rfl, rfl⟩

end State

end Sys2Proof.Machine
end

