-- ==== Sys2Proof/Laws/Claim.lean ====
section
/-! SUPPORT. What the Claim Engine's shared operations can do: which fields of State each one leaves alone, and the values it
gives. -/

namespace Sys2Proof.Machine

namespace State

/-! ### Opening and resolving -/

@[simp] theorem openingTest_rst (s : State) : (s.openingTest).rst = s.rst := by
  unfold openingTest openIntent; split <;> simp
@[simp] theorem openingTest_pins (s : State) : (s.openingTest).pins = s.pins := by
  unfold openingTest openIntent; split <;> simp
@[simp] theorem openingTest_lrx (s : State) : (s.openingTest).lrx = s.lrx := by
  unfold openingTest openIntent; split <;> simp
@[simp] theorem openingTest_rsq (s : State) : (s.openingTest).rsq = s.rsq := by
  unfold openingTest openIntent; split <;> simp
@[simp] theorem openingTest_view (s : State) : (s.openingTest).view = s.view := by
  unfold openingTest openIntent; split <;> simp
@[simp] theorem openingTest_snap (s : State) : (s.openingTest).snap = s.snap := by
  unfold openingTest openIntent; split <;> simp
@[simp] theorem openingTest_pfu (s : State) : (s.openingTest).pfu = s.pfu := by
  unfold openingTest openIntent; split <;> simp
@[simp] theorem openingTest_slu (s : State) : (s.openingTest).slu = s.slu := by
  unfold openingTest openIntent; split <;> simp
@[simp] theorem openingTest_oc (s : State) : (s.openingTest).oc = s.oc := by
  unfold openingTest openIntent; split <;> simp
@[simp] theorem openingTest_cmon (s : State) : (s.openingTest).cmon = s.cmon := by
  unfold openingTest openIntent; split <;> simp
@[simp] theorem openingTest_au (s : State) : (s.openingTest).au = s.au := by
  unfold openingTest openIntent; split <;> simp
@[simp] theorem openingTest_lport (s : State) : (s.openingTest).lport = s.lport := by
  unfold openingTest openIntent; split <;> simp
@[simp] theorem openingTest_notices (s : State) : (s.openingTest).notices = s.notices := by
  unfold openingTest openIntent; split <;> simp
@[simp] theorem openingTest_freeCount (s : State) : (s.openingTest).freeCount = s.freeCount := by
  unfold openingTest openIntent; split <;> simp
@[simp] theorem openingTest_pending (s : State) : (s.openingTest).pending = s.pending := by
  unfold openingTest openIntent; split <;> simp

@[simp] theorem endOfCeEvent_rst (s : State) : (s.endOfCeEvent).rst = s.rst := by
  simp [endOfCeEvent]
@[simp] theorem endOfCeEvent_pins (s : State) : (s.endOfCeEvent).pins = s.pins := by
  simp [endOfCeEvent]
@[simp] theorem endOfCeEvent_lrx (s : State) : (s.endOfCeEvent).lrx = s.lrx := by
  simp [endOfCeEvent]
@[simp] theorem endOfCeEvent_rsq (s : State) : (s.endOfCeEvent).rsq = s.rsq := by
  simp [endOfCeEvent]
@[simp] theorem endOfCeEvent_view (s : State) : (s.endOfCeEvent).view = s.view := by
  simp [endOfCeEvent]
@[simp] theorem endOfCeEvent_snap (s : State) : (s.endOfCeEvent).snap = s.snap := by
  simp [endOfCeEvent]
@[simp] theorem endOfCeEvent_pfu (s : State) : (s.endOfCeEvent).pfu = s.pfu := by
  simp [endOfCeEvent]
@[simp] theorem endOfCeEvent_lport (s : State) : (s.endOfCeEvent).lport = s.lport := by
  simp [endOfCeEvent]
@[simp] theorem endOfCeEvent_notices (s : State) : (s.endOfCeEvent).notices = s.notices := by
  simp [endOfCeEvent]
@[simp] theorem endOfCeEvent_freeCount (s : State) : (s.endOfCeEvent).freeCount = s.freeCount := by
  simp [endOfCeEvent]
@[simp] theorem endOfCeEvent_pending (s : State) : (s.endOfCeEvent).pending = s.pending := by
  simp [endOfCeEvent]

/-- The opening test leaves the claim and the attach state alone. -/
theorem openingTest_claim (s : State) :
    s.openingTest.own.committed = s.own.committed ∧ s.openingTest.own.attach = s.own.attach ∧
      s.openingTest.own.resolution = s.own.resolution := by
  unfold openingTest openIntent
  split <;> simp

theorem endOfCeEvent_claim (s : State) :
    s.endOfCeEvent.own.committed = s.own.committed ∧ s.endOfCeEvent.own.attach = s.own.attach ∧
      s.endOfCeEvent.own.resolution = s.own.resolution := by
  simpa [endOfCeEvent] using s.openingTest_claim

@[simp] theorem resolve_rst (s : State) (o : IntentOutcome) (granted : Nat) (m : Option MarginClass) : (s.resolve o granted m).rst = s.rst := by
  simp [resolve, setIntents]
@[simp] theorem resolve_pins (s : State) (o : IntentOutcome) (granted : Nat) (m : Option MarginClass) : (s.resolve o granted m).pins = s.pins := by
  simp [resolve, setIntents]
@[simp] theorem resolve_lrx (s : State) (o : IntentOutcome) (granted : Nat) (m : Option MarginClass) : (s.resolve o granted m).lrx = s.lrx := by
  simp [resolve, setIntents]
@[simp] theorem resolve_rsq (s : State) (o : IntentOutcome) (granted : Nat) (m : Option MarginClass) : (s.resolve o granted m).rsq = s.rsq := by
  simp [resolve, setIntents]
@[simp] theorem resolve_snap (s : State) (o : IntentOutcome) (granted : Nat) (m : Option MarginClass) : (s.resolve o granted m).snap = s.snap := by
  simp [resolve, setIntents]
@[simp] theorem resolve_pfu (s : State) (o : IntentOutcome) (granted : Nat) (m : Option MarginClass) : (s.resolve o granted m).pfu = s.pfu := by
  simp [resolve, setIntents]
@[simp] theorem resolve_slu (s : State) (o : IntentOutcome) (granted : Nat) (m : Option MarginClass) : (s.resolve o granted m).slu = s.slu := by
  simp [resolve, setIntents]
@[simp] theorem resolve_oc (s : State) (o : IntentOutcome) (granted : Nat) (m : Option MarginClass) : (s.resolve o granted m).oc = s.oc := by
  simp [resolve, setIntents]
@[simp] theorem resolve_cmon (s : State) (o : IntentOutcome) (granted : Nat) (m : Option MarginClass) : (s.resolve o granted m).cmon = s.cmon := by
  simp [resolve, setIntents]
@[simp] theorem resolve_au (s : State) (o : IntentOutcome) (granted : Nat) (m : Option MarginClass) : (s.resolve o granted m).au = s.au := by
  simp [resolve, setIntents]
@[simp] theorem resolve_lport (s : State) (o : IntentOutcome) (granted : Nat) (m : Option MarginClass) : (s.resolve o granted m).lport = s.lport := by
  simp [resolve, setIntents]
@[simp] theorem resolve_notices (s : State) (o : IntentOutcome) (granted : Nat) (m : Option MarginClass) : (s.resolve o granted m).notices = s.notices := by
  simp [resolve, setIntents]
@[simp] theorem resolve_freeCount (s : State) (o : IntentOutcome) (granted : Nat) (m : Option MarginClass) : (s.resolve o granted m).freeCount = s.freeCount := by
  simp [resolve, setIntents]
@[simp] theorem resolve_pending (s : State) (o : IntentOutcome) (granted : Nat) (m : Option MarginClass) : (s.resolve o granted m).pending = s.pending := by
  simp [resolve, setIntents]

/-- A resolution adds the granted amount, and nothing else, to the claim. -/
@[simp] theorem resolve_committed (s : State) (o : IntentOutcome) (granted : Nat) (m : Option MarginClass) :
    (s.resolve o granted m).own.committed = s.own.committed + granted := by simp [resolve]

@[simp] theorem resolve_attach (s : State) (o : IntentOutcome) (granted : Nat) (m : Option MarginClass) :
    (s.resolve o granted m).own.attach = s.own.attach := by simp [resolve, setIntents]

@[simp] theorem resolve_intentState (s : State) (o : IntentOutcome) (granted : Nat) (m : Option MarginClass) :
    (s.resolve o granted m).own.intentState = .settling := by simp [resolve]

@[simp] theorem resolve_resolution (s : State) (o : IntentOutcome) (granted : Nat) (m : Option MarginClass) :
    (s.resolve o granted m).own.resolution = some (s.resolutionOf o granted m) := by simp [resolve, resolutionOf, setIntents]

@[simp] theorem resolve_peers (s : State) (o : IntentOutcome) (granted : Nat) (m : Option MarginClass) :
    (s.resolve o granted m).view.peers = s.view.peers := by simp [resolve, setIntents]

@[simp] theorem withdrawalCause_rst (s : State) : (s.withdrawalCause).rst = s.rst := by
  unfold withdrawalCause resolveWithdrawn; (repeat' split) <;> simp
@[simp] theorem withdrawalCause_pins (s : State) : (s.withdrawalCause).pins = s.pins := by
  unfold withdrawalCause resolveWithdrawn; (repeat' split) <;> simp
@[simp] theorem withdrawalCause_lrx (s : State) : (s.withdrawalCause).lrx = s.lrx := by
  unfold withdrawalCause resolveWithdrawn; (repeat' split) <;> simp
@[simp] theorem withdrawalCause_rsq (s : State) : (s.withdrawalCause).rsq = s.rsq := by
  unfold withdrawalCause resolveWithdrawn; (repeat' split) <;> simp
@[simp] theorem withdrawalCause_snap (s : State) : (s.withdrawalCause).snap = s.snap := by
  unfold withdrawalCause resolveWithdrawn; (repeat' split) <;> simp
@[simp] theorem withdrawalCause_pfu (s : State) : (s.withdrawalCause).pfu = s.pfu := by
  unfold withdrawalCause resolveWithdrawn; (repeat' split) <;> simp
@[simp] theorem withdrawalCause_slu (s : State) : (s.withdrawalCause).slu = s.slu := by
  unfold withdrawalCause resolveWithdrawn; (repeat' split) <;> simp
@[simp] theorem withdrawalCause_oc (s : State) : (s.withdrawalCause).oc = s.oc := by
  unfold withdrawalCause resolveWithdrawn; (repeat' split) <;> simp
@[simp] theorem withdrawalCause_cmon (s : State) : (s.withdrawalCause).cmon = s.cmon := by
  unfold withdrawalCause resolveWithdrawn; (repeat' split) <;> simp
@[simp] theorem withdrawalCause_au (s : State) : (s.withdrawalCause).au = s.au := by
  unfold withdrawalCause resolveWithdrawn; (repeat' split) <;> simp
@[simp] theorem withdrawalCause_lport (s : State) : (s.withdrawalCause).lport = s.lport := by
  unfold withdrawalCause resolveWithdrawn; (repeat' split) <;> simp
@[simp] theorem withdrawalCause_freeCount (s : State) : (s.withdrawalCause).freeCount = s.freeCount := by
  unfold withdrawalCause resolveWithdrawn; (repeat' split) <;> simp
@[simp] theorem withdrawalCause_pending (s : State) : (s.withdrawalCause).pending = s.pending := by
  unfold withdrawalCause resolveWithdrawn; (repeat' split) <;> simp

/-- A withdrawal cause leaves the claim alone. -/
@[simp] theorem withdrawalCause_committed (s : State) : s.withdrawalCause.own.committed = s.own.committed := by
  unfold withdrawalCause resolveWithdrawn; (repeat' split) <;> simp

@[simp] theorem withdrawalCause_attach (s : State) : s.withdrawalCause.own.attach = s.own.attach := by
  unfold withdrawalCause resolveWithdrawn; (repeat' split) <;> simp

/-- No intent is open to withdraw after a withdrawal cause has acted on a window. -/
theorem withdrawalCause_not_window (s : State) : s.withdrawalCause.own.intentState ≠ .window := by
  unfold withdrawalCause resolveWithdrawn
  (repeat' split) <;> simp_all

@[simp] theorem decrease_rst (s : State) : (s.decrease).rst = s.rst := by
  unfold decrease; simp only; split <;> simp
@[simp] theorem decrease_pins (s : State) : (s.decrease).pins = s.pins := by
  unfold decrease; simp only; split <;> simp
@[simp] theorem decrease_lrx (s : State) : (s.decrease).lrx = s.lrx := by
  unfold decrease; simp only; split <;> simp
@[simp] theorem decrease_rsq (s : State) : (s.decrease).rsq = s.rsq := by
  unfold decrease; simp only; split <;> simp
@[simp] theorem decrease_view (s : State) : (s.decrease).view = s.view := by
  unfold decrease; simp only; split <;> simp
@[simp] theorem decrease_snap (s : State) : (s.decrease).snap = s.snap := by
  unfold decrease; simp only; split <;> simp
@[simp] theorem decrease_pfu (s : State) : (s.decrease).pfu = s.pfu := by
  unfold decrease; simp only; split <;> simp
@[simp] theorem decrease_slu (s : State) : (s.decrease).slu = s.slu := by
  unfold decrease; simp only; split <;> simp
@[simp] theorem decrease_oc (s : State) : (s.decrease).oc = s.oc := by
  unfold decrease; simp only; split <;> simp
@[simp] theorem decrease_cmon (s : State) : (s.decrease).cmon = s.cmon := by
  unfold decrease; simp only; split <;> simp
@[simp] theorem decrease_au (s : State) : (s.decrease).au = s.au := by
  unfold decrease; simp only; split <;> simp
@[simp] theorem decrease_lport (s : State) : (s.decrease).lport = s.lport := by
  unfold decrease; simp only; split <;> simp
@[simp] theorem decrease_notices (s : State) : (s.decrease).notices = s.notices := by
  unfold decrease; simp only; split <;> simp
@[simp] theorem decrease_freeCount (s : State) : (s.decrease).freeCount = s.freeCount := by
  unfold decrease; simp only; split <;> simp
@[simp] theorem decrease_pending (s : State) : (s.decrease).pending = s.pending := by
  unfold decrease; simp only; split <;> simp

/-- The decrease never raises a claim that is at least the larger of target and floor. -/
theorem decrease_committed (s : State) : s.decrease.own.committed = max s.own.target s.floor := by
  unfold decrease; simp only; split <;> simp

@[simp] theorem unrefresh_rst (s : State) : (s.unrefresh).rst = s.rst := by
  simp [unrefresh, setPeers]
@[simp] theorem unrefresh_pins (s : State) : (s.unrefresh).pins = s.pins := by
  simp [unrefresh, setPeers]
@[simp] theorem unrefresh_lrx (s : State) : (s.unrefresh).lrx = s.lrx := by
  simp [unrefresh, setPeers]
@[simp] theorem unrefresh_rsq (s : State) : (s.unrefresh).rsq = s.rsq := by
  simp [unrefresh, setPeers]
@[simp] theorem unrefresh_ltx (s : State) : (s.unrefresh).ltx = s.ltx := by
  simp [unrefresh, setPeers]
@[simp] theorem unrefresh_own (s : State) : (s.unrefresh).own = s.own := by
  simp [unrefresh, setPeers]
@[simp] theorem unrefresh_snap (s : State) : (s.unrefresh).snap = s.snap := by
  simp [unrefresh, setPeers]
@[simp] theorem unrefresh_pfu (s : State) : (s.unrefresh).pfu = s.pfu := by
  simp [unrefresh, setPeers]
@[simp] theorem unrefresh_slu (s : State) : (s.unrefresh).slu = s.slu := by
  simp [unrefresh, setPeers]
@[simp] theorem unrefresh_oc (s : State) : (s.unrefresh).oc = s.oc := by
  simp [unrefresh, setPeers]
@[simp] theorem unrefresh_cmon (s : State) : (s.unrefresh).cmon = s.cmon := by
  simp [unrefresh, setPeers]
@[simp] theorem unrefresh_au (s : State) : (s.unrefresh).au = s.au := by
  simp [unrefresh, setPeers]
@[simp] theorem unrefresh_lport (s : State) : (s.unrefresh).lport = s.lport := by
  simp [unrefresh, setPeers]
@[simp] theorem unrefresh_notices (s : State) : (s.unrefresh).notices = s.notices := by
  simp [unrefresh, setPeers]
@[simp] theorem unrefresh_freeCount (s : State) : (s.unrefresh).freeCount = s.freeCount := by
  simp [unrefresh, setPeers]
@[simp] theorem unrefresh_pending (s : State) : (s.unrefresh).pending = s.pending := by
  simp [unrefresh, setPeers]

@[simp] theorem unrefreshIf_rst (s : State) (b : Bool) : (s.unrefreshIf b).rst = s.rst := by
  unfold unrefreshIf; split <;> simp
@[simp] theorem unrefreshIf_pins (s : State) (b : Bool) : (s.unrefreshIf b).pins = s.pins := by
  unfold unrefreshIf; split <;> simp
@[simp] theorem unrefreshIf_lrx (s : State) (b : Bool) : (s.unrefreshIf b).lrx = s.lrx := by
  unfold unrefreshIf; split <;> simp
@[simp] theorem unrefreshIf_rsq (s : State) (b : Bool) : (s.unrefreshIf b).rsq = s.rsq := by
  unfold unrefreshIf; split <;> simp
@[simp] theorem unrefreshIf_ltx (s : State) (b : Bool) : (s.unrefreshIf b).ltx = s.ltx := by
  unfold unrefreshIf; split <;> simp
@[simp] theorem unrefreshIf_own (s : State) (b : Bool) : (s.unrefreshIf b).own = s.own := by
  unfold unrefreshIf; split <;> simp
@[simp] theorem unrefreshIf_snap (s : State) (b : Bool) : (s.unrefreshIf b).snap = s.snap := by
  unfold unrefreshIf; split <;> simp
@[simp] theorem unrefreshIf_pfu (s : State) (b : Bool) : (s.unrefreshIf b).pfu = s.pfu := by
  unfold unrefreshIf; split <;> simp
@[simp] theorem unrefreshIf_slu (s : State) (b : Bool) : (s.unrefreshIf b).slu = s.slu := by
  unfold unrefreshIf; split <;> simp
@[simp] theorem unrefreshIf_oc (s : State) (b : Bool) : (s.unrefreshIf b).oc = s.oc := by
  unfold unrefreshIf; split <;> simp
@[simp] theorem unrefreshIf_cmon (s : State) (b : Bool) : (s.unrefreshIf b).cmon = s.cmon := by
  unfold unrefreshIf; split <;> simp
@[simp] theorem unrefreshIf_au (s : State) (b : Bool) : (s.unrefreshIf b).au = s.au := by
  unfold unrefreshIf; split <;> simp
@[simp] theorem unrefreshIf_lport (s : State) (b : Bool) : (s.unrefreshIf b).lport = s.lport := by
  unfold unrefreshIf; split <;> simp
@[simp] theorem unrefreshIf_notices (s : State) (b : Bool) : (s.unrefreshIf b).notices = s.notices := by
  unfold unrefreshIf; split <;> simp
@[simp] theorem unrefreshIf_freeCount (s : State) (b : Bool) : (s.unrefreshIf b).freeCount = s.freeCount := by
  unfold unrefreshIf; split <;> simp
@[simp] theorem unrefreshIf_pending (s : State) (b : Bool) : (s.unrefreshIf b).pending = s.pending := by
  unfold unrefreshIf; split <;> simp

@[simp] theorem withdrawWindow_rst (s : State) : (s.withdrawWindow).rst = s.rst := by
  unfold withdrawWindow resolveWithdrawn; split <;> simp
@[simp] theorem withdrawWindow_pins (s : State) : (s.withdrawWindow).pins = s.pins := by
  unfold withdrawWindow resolveWithdrawn; split <;> simp
@[simp] theorem withdrawWindow_lrx (s : State) : (s.withdrawWindow).lrx = s.lrx := by
  unfold withdrawWindow resolveWithdrawn; split <;> simp
@[simp] theorem withdrawWindow_rsq (s : State) : (s.withdrawWindow).rsq = s.rsq := by
  unfold withdrawWindow resolveWithdrawn; split <;> simp
@[simp] theorem withdrawWindow_snap (s : State) : (s.withdrawWindow).snap = s.snap := by
  unfold withdrawWindow resolveWithdrawn; split <;> simp
@[simp] theorem withdrawWindow_pfu (s : State) : (s.withdrawWindow).pfu = s.pfu := by
  unfold withdrawWindow resolveWithdrawn; split <;> simp
@[simp] theorem withdrawWindow_slu (s : State) : (s.withdrawWindow).slu = s.slu := by
  unfold withdrawWindow resolveWithdrawn; split <;> simp
@[simp] theorem withdrawWindow_oc (s : State) : (s.withdrawWindow).oc = s.oc := by
  unfold withdrawWindow resolveWithdrawn; split <;> simp
@[simp] theorem withdrawWindow_cmon (s : State) : (s.withdrawWindow).cmon = s.cmon := by
  unfold withdrawWindow resolveWithdrawn; split <;> simp
@[simp] theorem withdrawWindow_au (s : State) : (s.withdrawWindow).au = s.au := by
  unfold withdrawWindow resolveWithdrawn; split <;> simp
@[simp] theorem withdrawWindow_lport (s : State) : (s.withdrawWindow).lport = s.lport := by
  unfold withdrawWindow resolveWithdrawn; split <;> simp
@[simp] theorem withdrawWindow_notices (s : State) : (s.withdrawWindow).notices = s.notices := by
  unfold withdrawWindow resolveWithdrawn; split <;> simp
@[simp] theorem withdrawWindow_freeCount (s : State) : (s.withdrawWindow).freeCount = s.freeCount := by
  unfold withdrawWindow resolveWithdrawn; split <;> simp
@[simp] theorem withdrawWindow_pending (s : State) : (s.withdrawWindow).pending = s.pending := by
  unfold withdrawWindow resolveWithdrawn; split <;> simp

@[simp] theorem proportionalShed_rst (s : State) (b : Nat) : (s.proportionalShed b).rst = s.rst := by
  unfold proportionalShed; simp only; (repeat' split) <;> simp
@[simp] theorem proportionalShed_pins (s : State) (b : Nat) : (s.proportionalShed b).pins = s.pins := by
  unfold proportionalShed; simp only; (repeat' split) <;> simp
@[simp] theorem proportionalShed_lrx (s : State) (b : Nat) : (s.proportionalShed b).lrx = s.lrx := by
  unfold proportionalShed; simp only; (repeat' split) <;> simp
@[simp] theorem proportionalShed_rsq (s : State) (b : Nat) : (s.proportionalShed b).rsq = s.rsq := by
  unfold proportionalShed; simp only; (repeat' split) <;> simp
@[simp] theorem proportionalShed_snap (s : State) (b : Nat) : (s.proportionalShed b).snap = s.snap := by
  unfold proportionalShed; simp only; (repeat' split) <;> simp
@[simp] theorem proportionalShed_pfu (s : State) (b : Nat) : (s.proportionalShed b).pfu = s.pfu := by
  unfold proportionalShed; simp only; (repeat' split) <;> simp
@[simp] theorem proportionalShed_slu (s : State) (b : Nat) : (s.proportionalShed b).slu = s.slu := by
  unfold proportionalShed; simp only; (repeat' split) <;> simp
@[simp] theorem proportionalShed_oc (s : State) (b : Nat) : (s.proportionalShed b).oc = s.oc := by
  unfold proportionalShed; simp only; (repeat' split) <;> simp
@[simp] theorem proportionalShed_cmon (s : State) (b : Nat) : (s.proportionalShed b).cmon = s.cmon := by
  unfold proportionalShed; simp only; (repeat' split) <;> simp
@[simp] theorem proportionalShed_au (s : State) (b : Nat) : (s.proportionalShed b).au = s.au := by
  unfold proportionalShed; simp only; (repeat' split) <;> simp
@[simp] theorem proportionalShed_lport (s : State) (b : Nat) : (s.proportionalShed b).lport = s.lport := by
  unfold proportionalShed; simp only; (repeat' split) <;> simp
@[simp] theorem proportionalShed_freeCount (s : State) (b : Nat) : (s.proportionalShed b).freeCount = s.freeCount := by
  unfold proportionalShed; simp only; (repeat' split) <;> simp
@[simp] theorem proportionalShed_pending (s : State) (b : Nat) : (s.proportionalShed b).pending = s.pending := by
  unfold proportionalShed; simp only; (repeat' split) <;> simp

@[simp] theorem deficitCheck_rst (s : State) (b : Nat) : (s.deficitCheck b).rst = s.rst := by
  unfold deficitCheck; split <;> simp
@[simp] theorem deficitCheck_pins (s : State) (b : Nat) : (s.deficitCheck b).pins = s.pins := by
  unfold deficitCheck; split <;> simp
@[simp] theorem deficitCheck_lrx (s : State) (b : Nat) : (s.deficitCheck b).lrx = s.lrx := by
  unfold deficitCheck; split <;> simp
@[simp] theorem deficitCheck_rsq (s : State) (b : Nat) : (s.deficitCheck b).rsq = s.rsq := by
  unfold deficitCheck; split <;> simp
@[simp] theorem deficitCheck_ltx (s : State) (b : Nat) : (s.deficitCheck b).ltx = s.ltx := by
  unfold deficitCheck; split <;> simp
@[simp] theorem deficitCheck_own (s : State) (b : Nat) : (s.deficitCheck b).own = s.own := by
  unfold deficitCheck; split <;> simp
@[simp] theorem deficitCheck_view (s : State) (b : Nat) : (s.deficitCheck b).view = s.view := by
  unfold deficitCheck; split <;> simp
@[simp] theorem deficitCheck_snap (s : State) (b : Nat) : (s.deficitCheck b).snap = s.snap := by
  unfold deficitCheck; split <;> simp
@[simp] theorem deficitCheck_pfu (s : State) (b : Nat) : (s.deficitCheck b).pfu = s.pfu := by
  unfold deficitCheck; split <;> simp
@[simp] theorem deficitCheck_slu (s : State) (b : Nat) : (s.deficitCheck b).slu = s.slu := by
  unfold deficitCheck; split <;> simp
@[simp] theorem deficitCheck_oc (s : State) (b : Nat) : (s.deficitCheck b).oc = s.oc := by
  unfold deficitCheck; split <;> simp
@[simp] theorem deficitCheck_cmon (s : State) (b : Nat) : (s.deficitCheck b).cmon = s.cmon := by
  unfold deficitCheck; split <;> simp
@[simp] theorem deficitCheck_lport (s : State) (b : Nat) : (s.deficitCheck b).lport = s.lport := by
  unfold deficitCheck; split <;> simp
@[simp] theorem deficitCheck_freeCount (s : State) (b : Nat) : (s.deficitCheck b).freeCount = s.freeCount := by
  unfold deficitCheck; split <;> simp
@[simp] theorem deficitCheck_pending (s : State) (b : Nat) : (s.deficitCheck b).pending = s.pending := by
  unfold deficitCheck; split <;> simp

/-! ### Records -/

@[simp] theorem dropHead_rst (s : State) : (s.dropHead).rst = s.rst := by
  simp [dropHead]
@[simp] theorem dropHead_pins (s : State) : (s.dropHead).pins = s.pins := by
  simp [dropHead]
@[simp] theorem dropHead_lrx (s : State) : (s.dropHead).lrx = s.lrx := by
  simp [dropHead]
@[simp] theorem dropHead_ltx (s : State) : (s.dropHead).ltx = s.ltx := by
  simp [dropHead]
@[simp] theorem dropHead_own (s : State) : (s.dropHead).own = s.own := by
  simp [dropHead]
@[simp] theorem dropHead_view (s : State) : (s.dropHead).view = s.view := by
  simp [dropHead]
@[simp] theorem dropHead_snap (s : State) : (s.dropHead).snap = s.snap := by
  simp [dropHead]
@[simp] theorem dropHead_pfu (s : State) : (s.dropHead).pfu = s.pfu := by
  simp [dropHead]
@[simp] theorem dropHead_slu (s : State) : (s.dropHead).slu = s.slu := by
  simp [dropHead]
@[simp] theorem dropHead_oc (s : State) : (s.dropHead).oc = s.oc := by
  simp [dropHead]
@[simp] theorem dropHead_cmon (s : State) : (s.dropHead).cmon = s.cmon := by
  simp [dropHead]
@[simp] theorem dropHead_au (s : State) : (s.dropHead).au = s.au := by
  simp [dropHead]
@[simp] theorem dropHead_lport (s : State) : (s.dropHead).lport = s.lport := by
  simp [dropHead]
@[simp] theorem dropHead_notices (s : State) : (s.dropHead).notices = s.notices := by
  simp [dropHead]
@[simp] theorem dropHead_freeCount (s : State) : (s.dropHead).freeCount = s.freeCount := by
  simp [dropHead]
@[simp] theorem dropHead_pending (s : State) : (s.dropHead).pending = s.pending := by
  simp [dropHead]

@[simp] theorem updatePeer_rst (s : State) (x : Nat) (apply : Peer → Peer) : (s.updatePeer x apply).rst = s.rst := by
  simp [updatePeer, setPeers]
@[simp] theorem updatePeer_pins (s : State) (x : Nat) (apply : Peer → Peer) : (s.updatePeer x apply).pins = s.pins := by
  simp [updatePeer, setPeers]
@[simp] theorem updatePeer_lrx (s : State) (x : Nat) (apply : Peer → Peer) : (s.updatePeer x apply).lrx = s.lrx := by
  simp [updatePeer, setPeers]
@[simp] theorem updatePeer_rsq (s : State) (x : Nat) (apply : Peer → Peer) : (s.updatePeer x apply).rsq = s.rsq := by
  simp [updatePeer, setPeers]
@[simp] theorem updatePeer_ltx (s : State) (x : Nat) (apply : Peer → Peer) : (s.updatePeer x apply).ltx = s.ltx := by
  simp [updatePeer, setPeers]
@[simp] theorem updatePeer_own (s : State) (x : Nat) (apply : Peer → Peer) : (s.updatePeer x apply).own = s.own := by
  simp [updatePeer, setPeers]
@[simp] theorem updatePeer_snap (s : State) (x : Nat) (apply : Peer → Peer) : (s.updatePeer x apply).snap = s.snap := by
  simp [updatePeer, setPeers]
@[simp] theorem updatePeer_pfu (s : State) (x : Nat) (apply : Peer → Peer) : (s.updatePeer x apply).pfu = s.pfu := by
  simp [updatePeer, setPeers]
@[simp] theorem updatePeer_slu (s : State) (x : Nat) (apply : Peer → Peer) : (s.updatePeer x apply).slu = s.slu := by
  simp [updatePeer, setPeers]
@[simp] theorem updatePeer_oc (s : State) (x : Nat) (apply : Peer → Peer) : (s.updatePeer x apply).oc = s.oc := by
  simp [updatePeer, setPeers]
@[simp] theorem updatePeer_cmon (s : State) (x : Nat) (apply : Peer → Peer) : (s.updatePeer x apply).cmon = s.cmon := by
  simp [updatePeer, setPeers]
@[simp] theorem updatePeer_au (s : State) (x : Nat) (apply : Peer → Peer) : (s.updatePeer x apply).au = s.au := by
  simp [updatePeer, setPeers]
@[simp] theorem updatePeer_lport (s : State) (x : Nat) (apply : Peer → Peer) : (s.updatePeer x apply).lport = s.lport := by
  simp [updatePeer, setPeers]
@[simp] theorem updatePeer_notices (s : State) (x : Nat) (apply : Peer → Peer) : (s.updatePeer x apply).notices = s.notices := by
  simp [updatePeer, setPeers]
@[simp] theorem updatePeer_freeCount (s : State) (x : Nat) (apply : Peer → Peer) : (s.updatePeer x apply).freeCount = s.freeCount := by
  simp [updatePeer, setPeers]
@[simp] theorem updatePeer_pending (s : State) (x : Nat) (apply : Peer → Peer) : (s.updatePeer x apply).pending = s.pending := by
  simp [updatePeer, setPeers]

@[simp] theorem recomputeReference_rst (s : State) : (s.recomputeReference).rst = s.rst := by
  simp [recomputeReference]
@[simp] theorem recomputeReference_pins (s : State) : (s.recomputeReference).pins = s.pins := by
  simp [recomputeReference]
@[simp] theorem recomputeReference_lrx (s : State) : (s.recomputeReference).lrx = s.lrx := by
  simp [recomputeReference]
@[simp] theorem recomputeReference_rsq (s : State) : (s.recomputeReference).rsq = s.rsq := by
  simp [recomputeReference]
@[simp] theorem recomputeReference_ltx (s : State) : (s.recomputeReference).ltx = s.ltx := by
  simp [recomputeReference]
@[simp] theorem recomputeReference_own (s : State) : (s.recomputeReference).own = s.own := by
  simp [recomputeReference]
@[simp] theorem recomputeReference_snap (s : State) : (s.recomputeReference).snap = s.snap := by
  simp [recomputeReference]
@[simp] theorem recomputeReference_pfu (s : State) : (s.recomputeReference).pfu = s.pfu := by
  simp [recomputeReference]
@[simp] theorem recomputeReference_slu (s : State) : (s.recomputeReference).slu = s.slu := by
  simp [recomputeReference]
@[simp] theorem recomputeReference_oc (s : State) : (s.recomputeReference).oc = s.oc := by
  simp [recomputeReference]
@[simp] theorem recomputeReference_cmon (s : State) : (s.recomputeReference).cmon = s.cmon := by
  simp [recomputeReference]
@[simp] theorem recomputeReference_au (s : State) : (s.recomputeReference).au = s.au := by
  simp [recomputeReference]
@[simp] theorem recomputeReference_lport (s : State) : (s.recomputeReference).lport = s.lport := by
  simp [recomputeReference]
@[simp] theorem recomputeReference_notices (s : State) : (s.recomputeReference).notices = s.notices := by
  simp [recomputeReference]
@[simp] theorem recomputeReference_freeCount (s : State) : (s.recomputeReference).freeCount = s.freeCount := by
  simp [recomputeReference]
@[simp] theorem recomputeReference_pending (s : State) : (s.recomputeReference).pending = s.pending := by
  simp [recomputeReference]

@[simp] theorem setIntents_rst (s : State) (es : List Entry) : (s.setIntents es).rst = s.rst := by
  simp [setIntents]
@[simp] theorem setIntents_pins (s : State) (es : List Entry) : (s.setIntents es).pins = s.pins := by
  simp [setIntents]
@[simp] theorem setIntents_lrx (s : State) (es : List Entry) : (s.setIntents es).lrx = s.lrx := by
  simp [setIntents]
@[simp] theorem setIntents_rsq (s : State) (es : List Entry) : (s.setIntents es).rsq = s.rsq := by
  simp [setIntents]
@[simp] theorem setIntents_ltx (s : State) (es : List Entry) : (s.setIntents es).ltx = s.ltx := by
  simp [setIntents]
@[simp] theorem setIntents_own (s : State) (es : List Entry) : (s.setIntents es).own = s.own := by
  simp [setIntents]
@[simp] theorem setIntents_snap (s : State) (es : List Entry) : (s.setIntents es).snap = s.snap := by
  simp [setIntents]
@[simp] theorem setIntents_pfu (s : State) (es : List Entry) : (s.setIntents es).pfu = s.pfu := by
  simp [setIntents]
@[simp] theorem setIntents_slu (s : State) (es : List Entry) : (s.setIntents es).slu = s.slu := by
  simp [setIntents]
@[simp] theorem setIntents_oc (s : State) (es : List Entry) : (s.setIntents es).oc = s.oc := by
  simp [setIntents]
@[simp] theorem setIntents_cmon (s : State) (es : List Entry) : (s.setIntents es).cmon = s.cmon := by
  simp [setIntents]
@[simp] theorem setIntents_au (s : State) (es : List Entry) : (s.setIntents es).au = s.au := by
  simp [setIntents]
@[simp] theorem setIntents_lport (s : State) (es : List Entry) : (s.setIntents es).lport = s.lport := by
  simp [setIntents]
@[simp] theorem setIntents_notices (s : State) (es : List Entry) : (s.setIntents es).notices = s.notices := by
  simp [setIntents]
@[simp] theorem setIntents_freeCount (s : State) (es : List Entry) : (s.setIntents es).freeCount = s.freeCount := by
  simp [setIntents]
@[simp] theorem setIntents_pending (s : State) (es : List Entry) : (s.setIntents es).pending = s.pending := by
  simp [setIntents]

@[simp] theorem confirm_rst (s : State) (mm : Bool) : (s.confirm mm).rst = s.rst := by
  unfold confirm; split <;> simp
@[simp] theorem confirm_pins (s : State) (mm : Bool) : (s.confirm mm).pins = s.pins := by
  unfold confirm; split <;> simp
@[simp] theorem confirm_lrx (s : State) (mm : Bool) : (s.confirm mm).lrx = s.lrx := by
  unfold confirm; split <;> simp
@[simp] theorem confirm_rsq (s : State) (mm : Bool) : (s.confirm mm).rsq = s.rsq := by
  unfold confirm; split <;> simp
@[simp] theorem confirm_ltx (s : State) (mm : Bool) : (s.confirm mm).ltx = s.ltx := by
  unfold confirm; split <;> simp
@[simp] theorem confirm_view (s : State) (mm : Bool) : (s.confirm mm).view = s.view := by
  unfold confirm; split <;> simp
@[simp] theorem confirm_snap (s : State) (mm : Bool) : (s.confirm mm).snap = s.snap := by
  unfold confirm; split <;> simp
@[simp] theorem confirm_pfu (s : State) (mm : Bool) : (s.confirm mm).pfu = s.pfu := by
  unfold confirm; split <;> simp
@[simp] theorem confirm_slu (s : State) (mm : Bool) : (s.confirm mm).slu = s.slu := by
  unfold confirm; split <;> simp
@[simp] theorem confirm_oc (s : State) (mm : Bool) : (s.confirm mm).oc = s.oc := by
  unfold confirm; split <;> simp
@[simp] theorem confirm_cmon (s : State) (mm : Bool) : (s.confirm mm).cmon = s.cmon := by
  unfold confirm; split <;> simp
@[simp] theorem confirm_au (s : State) (mm : Bool) : (s.confirm mm).au = s.au := by
  unfold confirm; split <;> simp
@[simp] theorem confirm_lport (s : State) (mm : Bool) : (s.confirm mm).lport = s.lport := by
  unfold confirm; split <;> simp
@[simp] theorem confirm_notices (s : State) (mm : Bool) : (s.confirm mm).notices = s.notices := by
  unfold confirm; split <;> simp
@[simp] theorem confirm_freeCount (s : State) (mm : Bool) : (s.confirm mm).freeCount = s.freeCount := by
  unfold confirm; split <;> simp
@[simp] theorem confirm_pending (s : State) (mm : Bool) : (s.confirm mm).pending = s.pending := by
  unfold confirm; split <;> simp

@[simp] theorem checkDigest_rst (s : State) (f : AnnounceFields) : (s.checkDigest f).rst = s.rst := by
  unfold checkDigest; split <;> simp
@[simp] theorem checkDigest_pins (s : State) (f : AnnounceFields) : (s.checkDigest f).pins = s.pins := by
  unfold checkDigest; split <;> simp
@[simp] theorem checkDigest_lrx (s : State) (f : AnnounceFields) : (s.checkDigest f).lrx = s.lrx := by
  unfold checkDigest; split <;> simp
@[simp] theorem checkDigest_rsq (s : State) (f : AnnounceFields) : (s.checkDigest f).rsq = s.rsq := by
  unfold checkDigest; split <;> simp
@[simp] theorem checkDigest_ltx (s : State) (f : AnnounceFields) : (s.checkDigest f).ltx = s.ltx := by
  unfold checkDigest; split <;> simp
@[simp] theorem checkDigest_own (s : State) (f : AnnounceFields) : (s.checkDigest f).own = s.own := by
  unfold checkDigest; split <;> simp
@[simp] theorem checkDigest_view (s : State) (f : AnnounceFields) : (s.checkDigest f).view = s.view := by
  unfold checkDigest; split <;> simp
@[simp] theorem checkDigest_snap (s : State) (f : AnnounceFields) : (s.checkDigest f).snap = s.snap := by
  unfold checkDigest; split <;> simp
@[simp] theorem checkDigest_pfu (s : State) (f : AnnounceFields) : (s.checkDigest f).pfu = s.pfu := by
  unfold checkDigest; split <;> simp
@[simp] theorem checkDigest_slu (s : State) (f : AnnounceFields) : (s.checkDigest f).slu = s.slu := by
  unfold checkDigest; split <;> simp
@[simp] theorem checkDigest_oc (s : State) (f : AnnounceFields) : (s.checkDigest f).oc = s.oc := by
  unfold checkDigest; split <;> simp
@[simp] theorem checkDigest_cmon (s : State) (f : AnnounceFields) : (s.checkDigest f).cmon = s.cmon := by
  unfold checkDigest; split <;> simp
@[simp] theorem checkDigest_lport (s : State) (f : AnnounceFields) : (s.checkDigest f).lport = s.lport := by
  unfold checkDigest; split <;> simp
@[simp] theorem checkDigest_freeCount (s : State) (f : AnnounceFields) : (s.checkDigest f).freeCount = s.freeCount := by
  unfold checkDigest; split <;> simp
@[simp] theorem checkDigest_pending (s : State) (f : AnnounceFields) : (s.checkDigest f).pending = s.pending := by
  unfold checkDigest; split <;> simp

@[simp] theorem checkProfile_rst (s : State) (f : AnnounceFields) : (s.checkProfile f).rst = s.rst := by
  unfold checkProfile; split <;> simp
@[simp] theorem checkProfile_pins (s : State) (f : AnnounceFields) : (s.checkProfile f).pins = s.pins := by
  unfold checkProfile; split <;> simp
@[simp] theorem checkProfile_lrx (s : State) (f : AnnounceFields) : (s.checkProfile f).lrx = s.lrx := by
  unfold checkProfile; split <;> simp
@[simp] theorem checkProfile_rsq (s : State) (f : AnnounceFields) : (s.checkProfile f).rsq = s.rsq := by
  unfold checkProfile; split <;> simp
@[simp] theorem checkProfile_ltx (s : State) (f : AnnounceFields) : (s.checkProfile f).ltx = s.ltx := by
  unfold checkProfile; split <;> simp
@[simp] theorem checkProfile_own (s : State) (f : AnnounceFields) : (s.checkProfile f).own = s.own := by
  unfold checkProfile; split <;> simp
@[simp] theorem checkProfile_view (s : State) (f : AnnounceFields) : (s.checkProfile f).view = s.view := by
  unfold checkProfile; split <;> simp
@[simp] theorem checkProfile_snap (s : State) (f : AnnounceFields) : (s.checkProfile f).snap = s.snap := by
  unfold checkProfile; split <;> simp
@[simp] theorem checkProfile_pfu (s : State) (f : AnnounceFields) : (s.checkProfile f).pfu = s.pfu := by
  unfold checkProfile; split <;> simp
@[simp] theorem checkProfile_slu (s : State) (f : AnnounceFields) : (s.checkProfile f).slu = s.slu := by
  unfold checkProfile; split <;> simp
@[simp] theorem checkProfile_oc (s : State) (f : AnnounceFields) : (s.checkProfile f).oc = s.oc := by
  unfold checkProfile; split <;> simp
@[simp] theorem checkProfile_cmon (s : State) (f : AnnounceFields) : (s.checkProfile f).cmon = s.cmon := by
  unfold checkProfile; split <;> simp
@[simp] theorem checkProfile_lport (s : State) (f : AnnounceFields) : (s.checkProfile f).lport = s.lport := by
  unfold checkProfile; split <;> simp
@[simp] theorem checkProfile_freeCount (s : State) (f : AnnounceFields) : (s.checkProfile f).freeCount = s.freeCount := by
  unfold checkProfile; split <;> simp
@[simp] theorem checkProfile_pending (s : State) (f : AnnounceFields) : (s.checkProfile f).pending = s.pending := by
  unfold checkProfile; split <;> simp

@[simp] theorem peerAnnounce_rst (s : State) (x : Nat) (mm : Bool) (f : AnnounceFields) : (s.peerAnnounce x mm f).rst = s.rst := by
  simp [peerAnnounce]
@[simp] theorem peerAnnounce_pins (s : State) (x : Nat) (mm : Bool) (f : AnnounceFields) : (s.peerAnnounce x mm f).pins = s.pins := by
  simp [peerAnnounce]
@[simp] theorem peerAnnounce_lrx (s : State) (x : Nat) (mm : Bool) (f : AnnounceFields) : (s.peerAnnounce x mm f).lrx = s.lrx := by
  simp [peerAnnounce]
@[simp] theorem peerAnnounce_rsq (s : State) (x : Nat) (mm : Bool) (f : AnnounceFields) : (s.peerAnnounce x mm f).rsq = s.rsq := by
  simp [peerAnnounce]
@[simp] theorem peerAnnounce_ltx (s : State) (x : Nat) (mm : Bool) (f : AnnounceFields) : (s.peerAnnounce x mm f).ltx = s.ltx := by
  simp [peerAnnounce]
@[simp] theorem peerAnnounce_own (s : State) (x : Nat) (mm : Bool) (f : AnnounceFields) : (s.peerAnnounce x mm f).own = s.own := by
  simp [peerAnnounce]
@[simp] theorem peerAnnounce_snap (s : State) (x : Nat) (mm : Bool) (f : AnnounceFields) : (s.peerAnnounce x mm f).snap = s.snap := by
  simp [peerAnnounce]
@[simp] theorem peerAnnounce_pfu (s : State) (x : Nat) (mm : Bool) (f : AnnounceFields) : (s.peerAnnounce x mm f).pfu = s.pfu := by
  simp [peerAnnounce]
@[simp] theorem peerAnnounce_slu (s : State) (x : Nat) (mm : Bool) (f : AnnounceFields) : (s.peerAnnounce x mm f).slu = s.slu := by
  simp [peerAnnounce]
@[simp] theorem peerAnnounce_oc (s : State) (x : Nat) (mm : Bool) (f : AnnounceFields) : (s.peerAnnounce x mm f).oc = s.oc := by
  simp [peerAnnounce]
@[simp] theorem peerAnnounce_cmon (s : State) (x : Nat) (mm : Bool) (f : AnnounceFields) : (s.peerAnnounce x mm f).cmon = s.cmon := by
  simp [peerAnnounce]
@[simp] theorem peerAnnounce_lport (s : State) (x : Nat) (mm : Bool) (f : AnnounceFields) : (s.peerAnnounce x mm f).lport = s.lport := by
  simp [peerAnnounce]
@[simp] theorem peerAnnounce_freeCount (s : State) (x : Nat) (mm : Bool) (f : AnnounceFields) : (s.peerAnnounce x mm f).freeCount = s.freeCount := by
  simp [peerAnnounce]
@[simp] theorem peerAnnounce_pending (s : State) (x : Nat) (mm : Bool) (f : AnnounceFields) : (s.peerAnnounce x mm f).pending = s.pending := by
  simp [peerAnnounce]

@[simp] theorem peerIntent_rst (s : State) (x : Nat) (mm : Bool) (f : IntentFields) : (s.peerIntent x mm f).rst = s.rst := by
  simp [peerIntent]
@[simp] theorem peerIntent_pins (s : State) (x : Nat) (mm : Bool) (f : IntentFields) : (s.peerIntent x mm f).pins = s.pins := by
  simp [peerIntent]
@[simp] theorem peerIntent_lrx (s : State) (x : Nat) (mm : Bool) (f : IntentFields) : (s.peerIntent x mm f).lrx = s.lrx := by
  simp [peerIntent]
@[simp] theorem peerIntent_rsq (s : State) (x : Nat) (mm : Bool) (f : IntentFields) : (s.peerIntent x mm f).rsq = s.rsq := by
  simp [peerIntent]
@[simp] theorem peerIntent_ltx (s : State) (x : Nat) (mm : Bool) (f : IntentFields) : (s.peerIntent x mm f).ltx = s.ltx := by
  simp [peerIntent]
@[simp] theorem peerIntent_own (s : State) (x : Nat) (mm : Bool) (f : IntentFields) : (s.peerIntent x mm f).own = s.own := by
  simp [peerIntent]
@[simp] theorem peerIntent_snap (s : State) (x : Nat) (mm : Bool) (f : IntentFields) : (s.peerIntent x mm f).snap = s.snap := by
  simp [peerIntent]
@[simp] theorem peerIntent_pfu (s : State) (x : Nat) (mm : Bool) (f : IntentFields) : (s.peerIntent x mm f).pfu = s.pfu := by
  simp [peerIntent]
@[simp] theorem peerIntent_slu (s : State) (x : Nat) (mm : Bool) (f : IntentFields) : (s.peerIntent x mm f).slu = s.slu := by
  simp [peerIntent]
@[simp] theorem peerIntent_oc (s : State) (x : Nat) (mm : Bool) (f : IntentFields) : (s.peerIntent x mm f).oc = s.oc := by
  simp [peerIntent]
@[simp] theorem peerIntent_cmon (s : State) (x : Nat) (mm : Bool) (f : IntentFields) : (s.peerIntent x mm f).cmon = s.cmon := by
  simp [peerIntent]
@[simp] theorem peerIntent_au (s : State) (x : Nat) (mm : Bool) (f : IntentFields) : (s.peerIntent x mm f).au = s.au := by
  simp [peerIntent]
@[simp] theorem peerIntent_lport (s : State) (x : Nat) (mm : Bool) (f : IntentFields) : (s.peerIntent x mm f).lport = s.lport := by
  simp [peerIntent]
@[simp] theorem peerIntent_notices (s : State) (x : Nat) (mm : Bool) (f : IntentFields) : (s.peerIntent x mm f).notices = s.notices := by
  simp [peerIntent]
@[simp] theorem peerIntent_freeCount (s : State) (x : Nat) (mm : Bool) (f : IntentFields) : (s.peerIntent x mm f).freeCount = s.freeCount := by
  simp [peerIntent]
@[simp] theorem peerIntent_pending (s : State) (x : Nat) (mm : Bool) (f : IntentFields) : (s.peerIntent x mm f).pending = s.pending := by
  simp [peerIntent]

@[simp] theorem peerSettle_rst (s : State) (x : Nat) (mm : Bool) (f : SettleFields) : (s.peerSettle x mm f).rst = s.rst := by
  simp [peerSettle]
@[simp] theorem peerSettle_pins (s : State) (x : Nat) (mm : Bool) (f : SettleFields) : (s.peerSettle x mm f).pins = s.pins := by
  simp [peerSettle]
@[simp] theorem peerSettle_lrx (s : State) (x : Nat) (mm : Bool) (f : SettleFields) : (s.peerSettle x mm f).lrx = s.lrx := by
  simp [peerSettle]
@[simp] theorem peerSettle_rsq (s : State) (x : Nat) (mm : Bool) (f : SettleFields) : (s.peerSettle x mm f).rsq = s.rsq := by
  simp [peerSettle]
@[simp] theorem peerSettle_ltx (s : State) (x : Nat) (mm : Bool) (f : SettleFields) : (s.peerSettle x mm f).ltx = s.ltx := by
  simp [peerSettle]
@[simp] theorem peerSettle_own (s : State) (x : Nat) (mm : Bool) (f : SettleFields) : (s.peerSettle x mm f).own = s.own := by
  simp [peerSettle]
@[simp] theorem peerSettle_snap (s : State) (x : Nat) (mm : Bool) (f : SettleFields) : (s.peerSettle x mm f).snap = s.snap := by
  simp [peerSettle]
@[simp] theorem peerSettle_pfu (s : State) (x : Nat) (mm : Bool) (f : SettleFields) : (s.peerSettle x mm f).pfu = s.pfu := by
  simp [peerSettle]
@[simp] theorem peerSettle_slu (s : State) (x : Nat) (mm : Bool) (f : SettleFields) : (s.peerSettle x mm f).slu = s.slu := by
  simp [peerSettle]
@[simp] theorem peerSettle_oc (s : State) (x : Nat) (mm : Bool) (f : SettleFields) : (s.peerSettle x mm f).oc = s.oc := by
  simp [peerSettle]
@[simp] theorem peerSettle_cmon (s : State) (x : Nat) (mm : Bool) (f : SettleFields) : (s.peerSettle x mm f).cmon = s.cmon := by
  simp [peerSettle]
@[simp] theorem peerSettle_au (s : State) (x : Nat) (mm : Bool) (f : SettleFields) : (s.peerSettle x mm f).au = s.au := by
  simp [peerSettle]
@[simp] theorem peerSettle_lport (s : State) (x : Nat) (mm : Bool) (f : SettleFields) : (s.peerSettle x mm f).lport = s.lport := by
  simp [peerSettle]
@[simp] theorem peerSettle_notices (s : State) (x : Nat) (mm : Bool) (f : SettleFields) : (s.peerSettle x mm f).notices = s.notices := by
  simp [peerSettle]
@[simp] theorem peerSettle_freeCount (s : State) (x : Nat) (mm : Bool) (f : SettleFields) : (s.peerSettle x mm f).freeCount = s.freeCount := by
  simp [peerSettle]
@[simp] theorem peerSettle_pending (s : State) (x : Nat) (mm : Bool) (f : SettleFields) : (s.peerSettle x mm f).pending = s.pending := by
  simp [peerSettle]

@[simp] theorem peerLeave_rst (s : State) (x : Nat) (mm : Bool) : (s.peerLeave x mm).rst = s.rst := by
  simp [peerLeave]
@[simp] theorem peerLeave_pins (s : State) (x : Nat) (mm : Bool) : (s.peerLeave x mm).pins = s.pins := by
  simp [peerLeave]
@[simp] theorem peerLeave_lrx (s : State) (x : Nat) (mm : Bool) : (s.peerLeave x mm).lrx = s.lrx := by
  simp [peerLeave]
@[simp] theorem peerLeave_rsq (s : State) (x : Nat) (mm : Bool) : (s.peerLeave x mm).rsq = s.rsq := by
  simp [peerLeave]
@[simp] theorem peerLeave_ltx (s : State) (x : Nat) (mm : Bool) : (s.peerLeave x mm).ltx = s.ltx := by
  simp [peerLeave]
@[simp] theorem peerLeave_own (s : State) (x : Nat) (mm : Bool) : (s.peerLeave x mm).own = s.own := by
  simp [peerLeave]
@[simp] theorem peerLeave_snap (s : State) (x : Nat) (mm : Bool) : (s.peerLeave x mm).snap = s.snap := by
  simp [peerLeave]
@[simp] theorem peerLeave_pfu (s : State) (x : Nat) (mm : Bool) : (s.peerLeave x mm).pfu = s.pfu := by
  simp [peerLeave]
@[simp] theorem peerLeave_slu (s : State) (x : Nat) (mm : Bool) : (s.peerLeave x mm).slu = s.slu := by
  simp [peerLeave]
@[simp] theorem peerLeave_oc (s : State) (x : Nat) (mm : Bool) : (s.peerLeave x mm).oc = s.oc := by
  simp [peerLeave]
@[simp] theorem peerLeave_cmon (s : State) (x : Nat) (mm : Bool) : (s.peerLeave x mm).cmon = s.cmon := by
  simp [peerLeave]
@[simp] theorem peerLeave_au (s : State) (x : Nat) (mm : Bool) : (s.peerLeave x mm).au = s.au := by
  simp [peerLeave]
@[simp] theorem peerLeave_lport (s : State) (x : Nat) (mm : Bool) : (s.peerLeave x mm).lport = s.lport := by
  simp [peerLeave]
@[simp] theorem peerLeave_notices (s : State) (x : Nat) (mm : Bool) : (s.peerLeave x mm).notices = s.notices := by
  simp [peerLeave]
@[simp] theorem peerLeave_freeCount (s : State) (x : Nat) (mm : Bool) : (s.peerLeave x mm).freeCount = s.freeCount := by
  simp [peerLeave]
@[simp] theorem peerLeave_pending (s : State) (x : Nat) (mm : Bool) : (s.peerLeave x mm).pending = s.pending := by
  simp [peerLeave]

@[simp] theorem openingDoubt_rst (s : State) : (s.openingDoubt).rst = s.rst := by
  unfold openingDoubt resolveWithdrawn; (repeat' split) <;> simp
@[simp] theorem openingDoubt_pins (s : State) : (s.openingDoubt).pins = s.pins := by
  unfold openingDoubt resolveWithdrawn; (repeat' split) <;> simp
@[simp] theorem openingDoubt_lrx (s : State) : (s.openingDoubt).lrx = s.lrx := by
  unfold openingDoubt resolveWithdrawn; (repeat' split) <;> simp
@[simp] theorem openingDoubt_rsq (s : State) : (s.openingDoubt).rsq = s.rsq := by
  unfold openingDoubt resolveWithdrawn; (repeat' split) <;> simp
@[simp] theorem openingDoubt_snap (s : State) : (s.openingDoubt).snap = s.snap := by
  unfold openingDoubt resolveWithdrawn; (repeat' split) <;> simp
@[simp] theorem openingDoubt_pfu (s : State) : (s.openingDoubt).pfu = s.pfu := by
  unfold openingDoubt resolveWithdrawn; (repeat' split) <;> simp
@[simp] theorem openingDoubt_slu (s : State) : (s.openingDoubt).slu = s.slu := by
  unfold openingDoubt resolveWithdrawn; (repeat' split) <;> simp
@[simp] theorem openingDoubt_oc (s : State) : (s.openingDoubt).oc = s.oc := by
  unfold openingDoubt resolveWithdrawn; (repeat' split) <;> simp
@[simp] theorem openingDoubt_cmon (s : State) : (s.openingDoubt).cmon = s.cmon := by
  unfold openingDoubt resolveWithdrawn; (repeat' split) <;> simp
@[simp] theorem openingDoubt_au (s : State) : (s.openingDoubt).au = s.au := by
  unfold openingDoubt resolveWithdrawn; (repeat' split) <;> simp
@[simp] theorem openingDoubt_lport (s : State) : (s.openingDoubt).lport = s.lport := by
  unfold openingDoubt resolveWithdrawn; (repeat' split) <;> simp
@[simp] theorem openingDoubt_notices (s : State) : (s.openingDoubt).notices = s.notices := by
  unfold openingDoubt resolveWithdrawn; (repeat' split) <;> simp
@[simp] theorem openingDoubt_freeCount (s : State) : (s.openingDoubt).freeCount = s.freeCount := by
  unfold openingDoubt resolveWithdrawn; (repeat' split) <;> simp
@[simp] theorem openingDoubt_pending (s : State) : (s.openingDoubt).pending = s.pending := by
  unfold openingDoubt resolveWithdrawn; (repeat' split) <;> simp

end State

/-! ### The peer table and the intent list -/

/-- Putting a record keeps the ascending order of the table. -/
theorem putPeer_ascending (p : Peer) (ps : List Peer) (h : ps.Pairwise (fun a b => a.id < b.id)) :
    (putPeer p ps).Pairwise (fun a b => a.id < b.id) ∧ ∀ q ∈ putPeer p ps, q = p ∨ q ∈ ps := by
  induction ps with
  | nil => simp [putPeer]
  | cons q qs ih =>
    rw [List.pairwise_cons] at h
    obtain ⟨hq, hqs⟩ := h
    obtain ⟨ih1, ih2⟩ := ih hqs
    unfold putPeer
    split
    · rename_i hlt
      refine ⟨?_, by simp⟩
      rw [List.pairwise_cons, List.pairwise_cons]
      refine ⟨?_, hq, hqs⟩
      intro a ha
      rcases List.mem_cons.1 ha with rfl | ha
      · exact hlt
      · exact lt_trans hlt (hq a ha)
    · split
      · rename_i heq
        refine ⟨?_, ?_⟩
        · rw [List.pairwise_cons]
          exact ⟨fun a ha => heq ▸ hq a ha, hqs⟩
        · intro a ha
          rcases List.mem_cons.1 ha with rfl | ha
          · exact Or.inl rfl
          · exact Or.inr (List.mem_cons_of_mem _ ha)
      · rename_i hlt hne
        refine ⟨?_, ?_⟩
        · rw [List.pairwise_cons]
          refine ⟨?_, ih1⟩
          intro a ha
          rcases ih2 a ha with rfl | ha
          · omega
          · exact hq a ha
        · intro a ha
          rcases List.mem_cons.1 ha with rfl | ha
          · exact Or.inr (List.mem_cons_self ..)
          · rcases ih2 a ha with rfl | ha
            · exact Or.inl rfl
            · exact Or.inr (List.mem_cons_of_mem _ ha)

theorem mem_removePeer (x : Nat) (ps : List Peer) (p : Peer) : p ∈ removePeer x ps ↔ p ∈ ps ∧ p.id ≠ x := by
  simp [removePeer]

theorem mem_removeEntry (x : Nat) (es : List Entry) (e : Entry) : e ∈ removeEntry x es ↔ e ∈ es ∧ e.station ≠ x := by
  simp [removeEntry]

theorem mem_removeOwnEntry (es : List Entry) (e : Entry) : e ∈ removeOwnEntry es ↔ e ∈ es ∧ e.own = false := by
  simp [removeOwnEntry]

@[simp] theorem unrefreshPeers_ids (ps : List Peer) : (unrefreshPeers ps).map (·.id) = ps.map (·.id) := by
  rw [unrefreshPeers, List.map_map]
  exact List.map_congr_left fun p _ => by simp only [Function.comp_apply]; split <;> rfl

@[simp] theorem unrefreshPeers_counted (ps : List Peer) : (unrefreshPeers ps).map Peer.counted = ps.map Peer.counted := by
  rw [unrefreshPeers, List.map_map]
  exact List.map_congr_left fun p _ => by simp only [Function.comp_apply]; split <;> rfl

end Sys2Proof.Machine
end

