-- ==== Sys2Proof/Laws/Link.lean ====
section
/-! SUPPORT. What LRX takes for a frame start, when an access gap is reached, which commands are due, and what a change of level at
SHD finds. -/

namespace Sys2Proof.Machine

namespace State

/-- A frame start is recognised in HUNT with idle seen, which an idle that has come about gives, and in no other case than a level
of the right age. -/
theorem frameStart_eq_some_iff (s t : State) :
    s.frameStart = some t ↔
      (s.seesIdle.lrx.state = .hunt true ∧ t = s.seesIdle.sdlStarted) ∨
        ∃ age, s.seesIdle.lrx.state = .starting age ∧ s.mayOpen age = true ∧ t = s := by
  unfold frameStart
  split
  · rename_i h; simp [h, @eq_comm _ t]
  · rename_i age h
    cases hm : s.mayOpen age <;> simp [h, hm, @eq_comm _ t]
  all_goals rename_i h; simp [h]

/-- Of what a frame start finds, only the levels of SDL, the recessive time and the receive state can differ from the state. -/
theorem frameStart_frame (s t : State) (h : s.frameStart = some t) :
    { t with pins := s.pins, lrx := s.lrx, ltx := s.ltx } = s ∧ t.lrx.checkOnly = s.lrx.checkOnly ∧
      t.lrx.lineCount = s.lrx.lineCount := by
  rcases (frameStart_eq_some_iff s t).1 h with ⟨_, rfl⟩ | ⟨_, _, _, rfl⟩
  · refine ⟨?_, by simp, by simp⟩
    unfold sdlStarted seesIdle
    (repeat' split) <;> rfl
  · exact ⟨rfl, rfl, rfl⟩

theorem gapReached_eq_true_iff (s : State) (gap : Nat) :
    s.gapReached gap = true ↔ gap ≤ s.ltx.recessive ∨
      ∃ t, s.pins.sdl = some t ∧ 4 * t ≤ s.bitTime ∧ gap ≤ s.ltx.recessiveBefore + t := by
  simp [gapReached, Option.any_eq_true]

/-- An attempt is due for the candidate, while none is in flight and the station may drive SDL, once its gap is reached. -/
theorem attemptDue_eq_some_iff (s : State) (k : FrameKind) :
    s.attemptDue = some k ↔ s.ltx.attempt = none ∧ s.mayTransmit = true ∧ s.rst.held = false ∧
      s.ltx.pend.candidate = some k ∧ s.gapReached (k.gapBits * s.bitTime) = true := by
  unfold attemptDue
  cases ha : s.ltx.attempt <;> cases hm : s.mayTransmit <;> cases hh : s.rst.held <;>
    cases hc : s.ltx.pend.candidate <;> simp
  rename_i j
  constructor
  · rintro ⟨h, rfl⟩; exact ⟨rfl, h⟩
  · rintro ⟨rfl, h⟩; exact ⟨h, rfl⟩

theorem filterDue_eq_true_iff (s : State) :
    s.filterDue = true ↔ (∃ n, s.slu.filter = some n ∧ shdFilterTicks ≤ n) ∧ observedOf s.pins.shd ≠ s.slu.observed := by
  cases h : s.slu.filter <;> simp [filterDue, reached, h]

/-- What a change of level at SHD finds: the filter with nothing due, or the observed change that was due made. -/
theorem observesDue_cases (s : State) :
    (s.filterDue = false ∧ s.observesDue = s) ∨
      (s.filterDue = true ∧ s.slu.observed = .released ∧ s.observesDue = s.observeAsserted.settle) ∨
      (s.filterDue = true ∧ s.slu.observed = .asserted ∧ s.observesDue = s.observeReleased.settle) := by
  unfold observesDue assertedDue releasedDue
  cases s.filterDue <;> cases h : s.slu.observed <;> simp

theorem shdTurns_eq (s : State) (l : Level) :
    s.shdTurns l = { s with
      pins := { s.pins with shd := l }
      slu := { s.slu with filter := if observedOf l = s.slu.observed then none else some 0 } } := rfl

theorem mem_offer (b : Bool) (i c : Instr) : c ∈ offer b i ↔ b = true ∧ c = i := by
  cases b <;> simp [offer]

end State

end Sys2Proof.Machine
end

