-- ==== Sys2Proof/WellFormed.lean ====
section
/-! DEFINITION. Which commands a sender of the spec can give. exec is total all the same: an ill-formed command finds no
occasion and changes nothing, or its surplus bytes are ignored. -/

namespace Sys2Proof

/-- A station ID (R52: 1 to 31). -/
def stationIdOk (id : Nat) : Bool := 1 ≤ id && id ≤ 31

/-- The bytes after the request code of one transaction: at most 63 (R173). -/
def paramsOk (params : List Byte) : Bool := params.length ≤ 63

/-- The operands are ones the spec allows: a peer's ID is a station ID (R52), an unknown request's code names no request
(R174), a transaction carries at most 64 bytes (R173). -/
def Instr.wellFormed : Instr → Bool
  | .peerLost id | .peerForgotten id => stationIdOk id
  | .unknownRequest code => !Machine.namesRequest code
  | .readSnapshot ps | .readCounters ps | .configure ps | .setTarget ps | .clearAlarms ps | .lineCheck ps => paramsOk ps
  | .fullReset | .startDelimiter | .malformedStart | .violation | .tooLong | .endDelimiter | .lineIdle
  | .attemptStart | .lostArbitration | .transmitFault | .announceTimerExpiry | .isolationTimer3P | .isolationTimer40P
  | .repeatTimerExpiry | .duplicateTimerExpiry | .takeAnnounce | .takeIntent | .takeSettle | .takeLeave
  | .takeOwnRecord | .takeDuplicateRecord | .takeErrorRecord | .takeLossRecord | .takeCheckRecord | .holdWindowExpiry
  | .retryTimerExpiry | .listenTimerExpiry | .sentNotice | .droppedNotice | .recalledNotice | .isolatedNotice
  | .isolationEndNotice | .rejoinNotice | .checkPassed | .checkFailed | .shedStartNotice | .shedEndNotice
  | .forceAlarmNotice | .clearedNotice | .pselChange _ _ _ | .settleTimerExpiry | .profileChangeEvent
  | .shdObservedAsserted | .shdObservedReleased | .recoveryTimerExpiry | .pwmeEdge _ | .blankingEnd | .senseChange _
  | .trip | .tripHoldEnd | .cleanTimerExpiry | .followTimerExpiry | .transactionStart | .nop | .readStatus
  | .readCapture | .join | .leave | .reEnable | .assertShed | .releaseShed | .takeSnapshot | .stopCheck
  | .wholeByte _ | .sdlDominant | .shdLevelChange _ | .endOfFullReset | .resetIgnoreEnd | .transactionWithoutRequest => true

end Sys2Proof
end

