-- ==== Sys2Proof/Laws/PerInstr.lean ====
section
/-! SUPPORT. One statement for every command, about its operands as syntax: what WellFormed demands of them, written out. -/

namespace Sys2Proof.Laws.Operands

/-- What the spec allows of a command's operands: a station ID from 1 to 31 (R52), a code that names no request (R174), at
most 63 bytes after the request code (R173). The operands of every other command are free. -/
def Allowed : Instr → Prop
  | .peerLost id | .peerForgotten id => 1 ≤ id ∧ id ≤ 31
  | .unknownRequest code => code ∉ Machine.requestCodes
  | .readSnapshot ps | .readCounters ps | .configure ps | .setTarget ps | .clearAlarms ps | .lineCheck ps => ps.length ≤ 63
  | _ => True

/-- A command is well-formed exactly when its operands are allowed. -/
def Statement (i : Instr) : Prop := i.wellFormed = true ↔ Allowed i

theorem fullReset : Statement .fullReset := iff_of_true rfl trivial

theorem startDelimiter : Statement .startDelimiter := iff_of_true rfl trivial

theorem malformedStart : Statement .malformedStart := iff_of_true rfl trivial

theorem violation : Statement .violation := iff_of_true rfl trivial

theorem tooLong : Statement .tooLong := iff_of_true rfl trivial

theorem endDelimiter : Statement .endDelimiter := iff_of_true rfl trivial

theorem lineIdle : Statement .lineIdle := iff_of_true rfl trivial

theorem attemptStart : Statement .attemptStart := iff_of_true rfl trivial

theorem lostArbitration : Statement .lostArbitration := iff_of_true rfl trivial

theorem transmitFault : Statement .transmitFault := iff_of_true rfl trivial

theorem announceTimerExpiry : Statement .announceTimerExpiry := iff_of_true rfl trivial

theorem isolationTimer3P : Statement .isolationTimer3P := iff_of_true rfl trivial

theorem isolationTimer40P : Statement .isolationTimer40P := iff_of_true rfl trivial

theorem repeatTimerExpiry : Statement .repeatTimerExpiry := iff_of_true rfl trivial

theorem duplicateTimerExpiry : Statement .duplicateTimerExpiry := iff_of_true rfl trivial

theorem peerLost (id : Nat) : Statement (.peerLost id) := by
  simp [Statement, Allowed, Instr.wellFormed, stationIdOk]

theorem peerForgotten (id : Nat) : Statement (.peerForgotten id) := by
  simp [Statement, Allowed, Instr.wellFormed, stationIdOk]

theorem takeAnnounce : Statement .takeAnnounce := iff_of_true rfl trivial

theorem takeIntent : Statement .takeIntent := iff_of_true rfl trivial

theorem takeSettle : Statement .takeSettle := iff_of_true rfl trivial

theorem takeLeave : Statement .takeLeave := iff_of_true rfl trivial

theorem takeOwnRecord : Statement .takeOwnRecord := iff_of_true rfl trivial

theorem takeDuplicateRecord : Statement .takeDuplicateRecord := iff_of_true rfl trivial

theorem takeErrorRecord : Statement .takeErrorRecord := iff_of_true rfl trivial

theorem takeLossRecord : Statement .takeLossRecord := iff_of_true rfl trivial

theorem takeCheckRecord : Statement .takeCheckRecord := iff_of_true rfl trivial

theorem holdWindowExpiry : Statement .holdWindowExpiry := iff_of_true rfl trivial

theorem retryTimerExpiry : Statement .retryTimerExpiry := iff_of_true rfl trivial

theorem listenTimerExpiry : Statement .listenTimerExpiry := iff_of_true rfl trivial

theorem sentNotice : Statement .sentNotice := iff_of_true rfl trivial

theorem droppedNotice : Statement .droppedNotice := iff_of_true rfl trivial

theorem recalledNotice : Statement .recalledNotice := iff_of_true rfl trivial

theorem isolatedNotice : Statement .isolatedNotice := iff_of_true rfl trivial

theorem isolationEndNotice : Statement .isolationEndNotice := iff_of_true rfl trivial

theorem rejoinNotice : Statement .rejoinNotice := iff_of_true rfl trivial

theorem checkPassed : Statement .checkPassed := iff_of_true rfl trivial

theorem checkFailed : Statement .checkFailed := iff_of_true rfl trivial

theorem shedStartNotice : Statement .shedStartNotice := iff_of_true rfl trivial

theorem shedEndNotice : Statement .shedEndNotice := iff_of_true rfl trivial

theorem forceAlarmNotice : Statement .forceAlarmNotice := iff_of_true rfl trivial

theorem clearedNotice : Statement .clearedNotice := iff_of_true rfl trivial

theorem pselChange (psel0 psel1 psel2 : Bool) : Statement (.pselChange psel0 psel1 psel2) := iff_of_true rfl trivial

theorem settleTimerExpiry : Statement .settleTimerExpiry := iff_of_true rfl trivial

theorem profileChangeEvent : Statement .profileChangeEvent := iff_of_true rfl trivial

theorem shdObservedAsserted : Statement .shdObservedAsserted := iff_of_true rfl trivial

theorem shdObservedReleased : Statement .shdObservedReleased := iff_of_true rfl trivial

theorem recoveryTimerExpiry : Statement .recoveryTimerExpiry := iff_of_true rfl trivial

theorem pwmeEdge (rising : Bool) : Statement (.pwmeEdge rising) := iff_of_true rfl trivial

theorem blankingEnd : Statement .blankingEnd := iff_of_true rfl trivial

theorem senseChange (level : Nat) : Statement (.senseChange level) := iff_of_true rfl trivial

theorem trip : Statement .trip := iff_of_true rfl trivial

theorem tripHoldEnd : Statement .tripHoldEnd := iff_of_true rfl trivial

theorem cleanTimerExpiry : Statement .cleanTimerExpiry := iff_of_true rfl trivial

theorem followTimerExpiry : Statement .followTimerExpiry := iff_of_true rfl trivial

theorem transactionStart : Statement .transactionStart := iff_of_true rfl trivial

theorem unknownRequest (code : Byte) : Statement (.unknownRequest code) := by
  simp [Statement, Allowed, Instr.wellFormed, Machine.namesRequest]

theorem nop : Statement .nop := iff_of_true rfl trivial

theorem readStatus : Statement .readStatus := iff_of_true rfl trivial

theorem readSnapshot (params : List Byte) : Statement (.readSnapshot params) := by
  simp [Statement, Allowed, Instr.wellFormed, paramsOk]

theorem readCapture : Statement .readCapture := iff_of_true rfl trivial

theorem readCounters (params : List Byte) : Statement (.readCounters params) := by
  simp [Statement, Allowed, Instr.wellFormed, paramsOk]

theorem configure (params : List Byte) : Statement (.configure params) := by
  simp [Statement, Allowed, Instr.wellFormed, paramsOk]

theorem join : Statement .join := iff_of_true rfl trivial

theorem leave : Statement .leave := iff_of_true rfl trivial

theorem setTarget (params : List Byte) : Statement (.setTarget params) := by
  simp [Statement, Allowed, Instr.wellFormed, paramsOk]

theorem reEnable : Statement .reEnable := iff_of_true rfl trivial

theorem assertShed : Statement .assertShed := iff_of_true rfl trivial

theorem releaseShed : Statement .releaseShed := iff_of_true rfl trivial

theorem clearAlarms (params : List Byte) : Statement (.clearAlarms params) := by
  simp [Statement, Allowed, Instr.wellFormed, paramsOk]

theorem takeSnapshot : Statement .takeSnapshot := iff_of_true rfl trivial

theorem lineCheck (params : List Byte) : Statement (.lineCheck params) := by
  simp [Statement, Allowed, Instr.wellFormed, paramsOk]

theorem stopCheck : Statement .stopCheck := iff_of_true rfl trivial

theorem wholeByte (b : Byte) : Statement (.wholeByte b) := iff_of_true rfl trivial

theorem sdlDominant : Statement .sdlDominant := iff_of_true rfl trivial

theorem shdLevelChange (level : Level) : Statement (.shdLevelChange level) := iff_of_true rfl trivial

theorem endOfFullReset : Statement .endOfFullReset := iff_of_true rfl trivial

theorem resetIgnoreEnd : Statement .resetIgnoreEnd := iff_of_true rfl trivial

theorem transactionWithoutRequest : Statement .transactionWithoutRequest := iff_of_true rfl trivial

end Sys2Proof.Laws.Operands
end

