-- ==== Sys2Proof/Laws/Port.lean ====
section
/-! SUPPORT. What an answer at the local port can do, test by test (R174), and what the response keeps. -/

namespace Sys2Proof.Machine

namespace State

theorem transactionEnds_iff (s : State) :
    s.transactionEnds = true ↔ s.lport.transaction.isSome = true ∧ s.rst.held = false ∧ s.rst.blind = none := by
  simp [transactionEnds, portBlind]

/-- Without a transaction in progress there is no rising edge, and nothing happens. -/
theorem answer_of_no_edge (s : State) (request : Byte) (enough taken inRange : Bool) (carry : State → Carried)
    (h : s.transactionEnds = false) : s.answer request enough taken inRange carry = s := by simp [answer, h]

/-- Test 2: too few bytes. -/
theorem answer_of_short (s : State) (request : Byte) (taken inRange : Bool) (carry : State → Carried)
    (h : s.transactionEnds = true) :
    s.answer request false taken inRange carry = s.endTransaction.respond .badValue request [] := by simp [answer, h]

/-- Test 3: a state that does not take the request. -/
theorem answer_of_not_taken (s : State) (request : Byte) (inRange : Bool) (carry : State → Carried)
    (h : s.transactionEnds = true) :
    s.answer request true false inRange carry = s.endTransaction.respond .refusedState request [] := by simp [answer, h]

/-- Test 4: a parameter out of range. -/
theorem answer_of_out_of_range (s : State) (request : Byte) (carry : State → Carried) (h : s.transactionEnds = true) :
    s.answer request true true false carry = s.endTransaction.respond .badValue request [] := by simp [answer, h]

/-- Every test passed: the request is carried out and answered. -/
theorem answer_of_carried (s : State) (request : Byte) (carry : State → Carried) (h : s.transactionEnds = true) :
    s.answer request true true true carry =
      (carry s.endTransaction).state.respond (carry s.endTransaction).code request (carry s.endTransaction).data := by
  simp [answer, h]

/-- What holds in a state, after the transaction has ended, and after every response to a carried request, holds after the
answer. -/
theorem answer_induction (P : State → Prop) (s : State) (request : Byte) (enough taken inRange : Bool) (carry : State → Carried)
    (stays : P s) (refused : ∀ code, P (s.endTransaction.respond code request []))
    (carried : s.transactionEnds = true → enough = true → taken = true → inRange = true →
      P ((carry s.endTransaction).state.respond (carry s.endTransaction).code request (carry s.endTransaction).data)) :
    P (s.answer request enough taken inRange carry) := by
  unfold answer
  cases h : s.transactionEnds
  · simpa using stays
  · cases enough
    · simpa using refused .badValue
    · cases taken
      · simpa using refused .refusedState
      · cases inRange
        · simpa using refused .badValue
        · simpa using carried h rfl rfl rfl

@[simp] theorem respond_config (s : State) (code : RespCode) (request : Byte) (data : List Byte) :
    (s.respond code request data).lport.config = s.lport.config := rfl

@[simp] theorem respond_counters (s : State) (code : RespCode) (request : Byte) (data : List Byte) :
    (s.respond code request data).lport.counters = s.lport.counters := rfl

@[simp] theorem endTransaction_config (s : State) : s.endTransaction.lport.config = s.lport.config := rfl

@[simp] theorem endTransaction_counters (s : State) : s.endTransaction.lport.counters = s.lport.counters := rfl

@[simp] theorem respond_rst (s : State) (code : RespCode) (request : Byte) (data : List Byte) :
    (s.respond code request data).rst = s.rst := rfl
@[simp] theorem respond_pins (s : State) (code : RespCode) (request : Byte) (data : List Byte) :
    (s.respond code request data).pins = s.pins := rfl
@[simp] theorem respond_lrx (s : State) (code : RespCode) (request : Byte) (data : List Byte) :
    (s.respond code request data).lrx = s.lrx := rfl
@[simp] theorem respond_rsq (s : State) (code : RespCode) (request : Byte) (data : List Byte) :
    (s.respond code request data).rsq = s.rsq := rfl
@[simp] theorem respond_ltx (s : State) (code : RespCode) (request : Byte) (data : List Byte) :
    (s.respond code request data).ltx = s.ltx := rfl
@[simp] theorem respond_own (s : State) (code : RespCode) (request : Byte) (data : List Byte) :
    (s.respond code request data).own = s.own := rfl
@[simp] theorem respond_view (s : State) (code : RespCode) (request : Byte) (data : List Byte) :
    (s.respond code request data).view = s.view := rfl
@[simp] theorem respond_snap (s : State) (code : RespCode) (request : Byte) (data : List Byte) :
    (s.respond code request data).snap = s.snap := rfl
@[simp] theorem respond_pfu (s : State) (code : RespCode) (request : Byte) (data : List Byte) :
    (s.respond code request data).pfu = s.pfu := rfl
@[simp] theorem respond_slu (s : State) (code : RespCode) (request : Byte) (data : List Byte) :
    (s.respond code request data).slu = s.slu := rfl
@[simp] theorem respond_oc (s : State) (code : RespCode) (request : Byte) (data : List Byte) :
    (s.respond code request data).oc = s.oc := rfl
@[simp] theorem respond_cmon (s : State) (code : RespCode) (request : Byte) (data : List Byte) :
    (s.respond code request data).cmon = s.cmon := rfl
@[simp] theorem respond_au (s : State) (code : RespCode) (request : Byte) (data : List Byte) :
    (s.respond code request data).au = s.au := rfl
@[simp] theorem respond_notices (s : State) (code : RespCode) (request : Byte) (data : List Byte) :
    (s.respond code request data).notices = s.notices := rfl
@[simp] theorem respond_freeCount (s : State) (code : RespCode) (request : Byte) (data : List Byte) :
    (s.respond code request data).freeCount = s.freeCount := rfl
@[simp] theorem respond_pending (s : State) (code : RespCode) (request : Byte) (data : List Byte) :
    (s.respond code request data).pending = s.pending := rfl

@[simp] theorem endTransaction_rst (s : State) : s.endTransaction.rst = s.rst := rfl
@[simp] theorem endTransaction_pins (s : State) : s.endTransaction.pins = s.pins := rfl
@[simp] theorem endTransaction_lrx (s : State) : s.endTransaction.lrx = s.lrx := rfl
@[simp] theorem endTransaction_rsq (s : State) : s.endTransaction.rsq = s.rsq := rfl
@[simp] theorem endTransaction_ltx (s : State) : s.endTransaction.ltx = s.ltx := rfl
@[simp] theorem endTransaction_own (s : State) : s.endTransaction.own = s.own := rfl
@[simp] theorem endTransaction_view (s : State) : s.endTransaction.view = s.view := rfl
@[simp] theorem endTransaction_snap (s : State) : s.endTransaction.snap = s.snap := rfl
@[simp] theorem endTransaction_pfu (s : State) : s.endTransaction.pfu = s.pfu := rfl
@[simp] theorem endTransaction_slu (s : State) : s.endTransaction.slu = s.slu := rfl
@[simp] theorem endTransaction_oc (s : State) : s.endTransaction.oc = s.oc := rfl
@[simp] theorem endTransaction_cmon (s : State) : s.endTransaction.cmon = s.cmon := rfl
@[simp] theorem endTransaction_au (s : State) : s.endTransaction.au = s.au := rfl
@[simp] theorem endTransaction_notices (s : State) : s.endTransaction.notices = s.notices := rfl
@[simp] theorem endTransaction_freeCount (s : State) : s.endTransaction.freeCount = s.freeCount := rfl
@[simp] theorem endTransaction_pending (s : State) : s.endTransaction.pending = s.pending := rfl

/-! ### The notices that CE takes before CLEAR ALARMS -/

theorem forcedNotices_eq_nil (kinds : Word16) (ns : List AuNotice) (h : ∀ n ∈ ns, n.forces kinds = false) :
    forcedNotices kinds ns = [] := by
  cases ns with
  | nil => rfl
  | cons n ns =>
    have : (n :: ns).any (AuNotice.forces kinds) = false := by simpa using h
    simp [forcedNotices, this]

/-- The notices taken are the oldest ones, they end with a force-alarm notice of a kind in the set, and none of those that are left
is one. -/
theorem forcedNotices_split (kinds : Word16) (ns : List AuNotice) :
    ∃ rest, ns = forcedNotices kinds ns ++ rest ∧ (∀ n ∈ rest, n.forces kinds = false) ∧
      (forcedNotices kinds ns = [] ∨ ∃ front n, forcedNotices kinds ns = front ++ [n] ∧ n.forces kinds = true) := by
  induction ns with
  | nil => exact ⟨[], rfl, by simp, Or.inl rfl⟩
  | cons n ns ih =>
    obtain ⟨rest, h1, h2, h3⟩ := ih
    cases ha : (n :: ns).any (AuNotice.forces kinds) with
    | false =>
      refine ⟨n :: ns, by simp [forcedNotices, ha], ?_, Or.inl (by simp [forcedNotices, ha])⟩
      simpa using ha
    | true =>
      have e : forcedNotices kinds (n :: ns) = n :: forcedNotices kinds ns := by simp [forcedNotices, ha]
      refine ⟨rest, by rw [e, List.cons_append, ← h1], h2, Or.inr ?_⟩
      rcases h3 with h3 | ⟨front, m, h3, h4⟩
      · refine ⟨[], n, by rw [e, h3]; rfl, ?_⟩
        rw [h3, List.nil_append] at h1
        rw [List.any_cons, Bool.or_eq_true] at ha
        rcases ha with ha | ha
        · exact ha
        · obtain ⟨m, hm, hf⟩ := List.any_eq_true.1 ha
          rw [h2 m (h1 ▸ hm)] at hf
          cases hf
      · exact ⟨n :: front, m, by rw [e, h3]; rfl, h4⟩

/-- What holds before and is kept by each notice that CE takes holds after all of them. -/
theorem auNoticesTaken_induction (s : State) (cleared : Word16) (P : State → Prop) (start : P s) (takes : ∀ t, P t → ∀ n, P (t.auNoticeTaken n)) :
    P (s.auNoticesTaken cleared) := by
  unfold auNoticesTaken
  generalize forcedNotices cleared s.notices.au = ns
  induction ns generalizing s with
  | nil => exact start
  | cons n ns ih => exact ih (s.auNoticeTaken n) (takes s start n)

/-- No waiting notice is a force-alarm notice of a kind that is cleared: none is taken. -/
theorem auNoticesTaken_of_none (s : State) (cleared : Word16) (h : ∀ n ∈ s.notices.au, n.forces cleared = false) :
    s.auNoticesTaken cleared = s := by
  simp [auNoticesTaken, forcedNotices_eq_nil cleared s.notices.au h]

@[simp] theorem auNoticesTaken_rst (s : State) (cleared : Word16) : (s.auNoticesTaken cleared).rst = s.rst :=
  s.auNoticesTaken_induction cleared (·.rst = s.rst) rfl fun t h n => by cases n <;> simpa [auNoticeTaken, takeAu] using h
@[simp] theorem auNoticesTaken_pins (s : State) (cleared : Word16) : (s.auNoticesTaken cleared).pins = s.pins :=
  s.auNoticesTaken_induction cleared (·.pins = s.pins) rfl fun t h n => by cases n <;> simpa [auNoticeTaken, takeAu] using h
@[simp] theorem auNoticesTaken_lrx (s : State) (cleared : Word16) : (s.auNoticesTaken cleared).lrx = s.lrx :=
  s.auNoticesTaken_induction cleared (·.lrx = s.lrx) rfl fun t h n => by cases n <;> simpa [auNoticeTaken, takeAu] using h
@[simp] theorem auNoticesTaken_rsq (s : State) (cleared : Word16) : (s.auNoticesTaken cleared).rsq = s.rsq :=
  s.auNoticesTaken_induction cleared (·.rsq = s.rsq) rfl fun t h n => by cases n <;> simpa [auNoticeTaken, takeAu] using h
@[simp] theorem auNoticesTaken_snap (s : State) (cleared : Word16) : (s.auNoticesTaken cleared).snap = s.snap :=
  s.auNoticesTaken_induction cleared (·.snap = s.snap) rfl fun t h n => by cases n <;> simpa [auNoticeTaken, takeAu] using h
@[simp] theorem auNoticesTaken_pfu (s : State) (cleared : Word16) : (s.auNoticesTaken cleared).pfu = s.pfu :=
  s.auNoticesTaken_induction cleared (·.pfu = s.pfu) rfl fun t h n => by cases n <;> simpa [auNoticeTaken, takeAu] using h
@[simp] theorem auNoticesTaken_lport (s : State) (cleared : Word16) : (s.auNoticesTaken cleared).lport = s.lport :=
  s.auNoticesTaken_induction cleared (·.lport = s.lport) rfl fun t h n => by cases n <;> simpa [auNoticeTaken, takeAu] using h
@[simp] theorem auNoticesTaken_freeCount (s : State) (cleared : Word16) : (s.auNoticesTaken cleared).freeCount = s.freeCount :=
  s.auNoticesTaken_induction cleared (·.freeCount = s.freeCount) rfl fun t h n => by cases n <;> simpa [auNoticeTaken, takeAu] using h
@[simp] theorem auNoticesTaken_pending (s : State) (cleared : Word16) : (s.auNoticesTaken cleared).pending = s.pending :=
  s.auNoticesTaken_induction cleared (·.pending = s.pending) rfl fun t h n => by cases n <;> simpa [auNoticeTaken, takeAu] using h

/-- Taking the notices leaves every flag and mask as it is. -/
theorem auNoticesTaken_flags (s : State) (cleared : Word16) : (s.auNoticesTaken cleared).au.flags = s.au.flags :=
  s.auNoticesTaken_induction cleared (·.au.flags = s.au.flags) rfl fun t h n => by
    cases n <;> simpa [auNoticeTaken, endOfCeEvent, settle_au, takeAu] using h

end State

/-- A code of the table names its request, whose parameters are the bytes after it. -/
theorem requestNamed_wellFormed (code : Byte) (params : List Byte) (h : paramsOk params = true) :
    (requestNamed code params).wellFormed = true := by
  by_cases m : code ∈ requestCodes
  · simp only [requestCodes, List.mem_cons, List.not_mem_nil, or_false] at m
    rcases m with rfl | rfl | rfl | rfl | rfl | rfl | rfl | rfl | rfl | rfl | rfl | rfl | rfl | rfl | rfl | rfl <;>
      first | rfl | exact h
  · have e : requestNamed code params = .unknownRequest code := by
      simp only [requestCodes, List.mem_cons, List.not_mem_nil, or_false, not_or] at m
      simp [requestNamed, m]
    simp [e, Instr.wellFormed, namesRequest, m]

/-- What the port makes of the bytes received is well-formed. -/
theorem commandReceived_wellFormed (mosi : List Byte) : (commandReceived mosi).wellFormed = true := by
  cases mosi with
  | nil => rfl
  | cons code params => exact requestNamed_wellFormed code _ (by simp [paramsOk, portParams])

/-! ### The bits of the port -/

theorem portByte_portBits (b : Byte) : portByte (portBits b) = b := by revert b; decide +kernel

/-- The eight bits of a byte, most significant first, are received as that byte. -/
theorem wholeBytes_portBits_append (b : Byte) (rest : List Bool) : wholeBytes (portBits b ++ rest) = b :: wholeBytes rest := by
  conv_rhs => rw [← portByte_portBits b]
  rfl

/-- Fewer than eight bits complete no byte. -/
theorem wholeBytes_of_short (rest : List Bool) (h : rest.length < 8) : wholeBytes rest = [] := by
  unfold wholeBytes
  split
  · simp at h; omega
  · rfl

/-- Bytes sent bit by bit are received, and bits that complete no byte are dropped (R173). -/
theorem wholeBytes_of_bytes (bs : List Byte) (rest : List Bool) (h : rest.length < 8) :
    wholeBytes (bs.flatMap portBits ++ rest) = bs := by
  induction bs with
  | nil => exact wholeBytes_of_short rest h
  | cons b bs ih => rw [List.flatMap_cons, List.append_assoc, wholeBytes_portBits_append, ih]

/-! ### The sizes of the responses -/

theorem u16_length (n : Nat) : (u16 n).length = 2 := rfl

theorem u24_length (n : Nat) : (u24 n).length = 3 := rfl

theorem statusRecord_length (s : State) : s.statusRecord.length = 29 := by simp [State.statusRecord, u16, u24]

end Sys2Proof.Machine
end

