-- ==== Sys2Proof/Tests/Slice0.lean ====
section
/-! SUPPORT. The model's own tests: an ill-formed command for each check of WellFormed, small examples taken from the spec,
and for every statement with hypotheses concrete states and operands that meet them together (`witness_…`), with a value at
the boundary of each range. -/

namespace Sys2Proof.Tests

open Sys2Proof.Machine

/-! ### Small states -/

/-- A station after a full reset and the port's blind time, not configured. -/
def up : State := { State.reset with rst := { held := false, blind := none } }

/-- Station 5: 1 µs bits, P = 10 ms, H = 10 ms, floor 100, ceiling 1200, trip mode RETRY_EDGE. -/
def record : ConfigRecord :=
  { stationId := 5, bitRate := 3, period := 0, hold := 2, floor := 100, ceiling := 1200, budgets := List.replicate 8 2000
    tripMargin := 20, blanking := 1, qualify := 1, follow := 1, tripMode := 4, retryLimit := 3, notifyMask := 0x07FF
    forceMask := 0x0010, lineMask := 0x0004, pattern := [1, 2, 3, 4, 5, 6, 7, 8] }

/-- The same station configured, in DETACHED. -/
def conf : State :=
  { up with
    lport := { up.lport with config := some record, digest := some 0x1234 }
    pfu := { up.pfu with table := some record.budgets, budget := 2000 } }

/-- The configured station in an attach state, LRX in HUNT. -/
def attachedAs (a : AttachState) : State :=
  { conf with own := { conf.own with attach := a }, lrx := { conf.lrx with state := .hunt true } }

/-- A member with a claim and a target. -/
def memberAt (claim target : Nat) : State :=
  { attachedAs .member with own := { (attachedAs .member).own with committed := claim, target := target } }

/-- A member with its own intent in a state, for 300 more units. -/
def intentIn (i : IntentState) : State :=
  let s := memberAt 500 800
  { s with own := { s.own with
      intentState := i
      current := some { number := 7, delta := 300, deltaMin := 1, committedBefore := 500 } } }

/-- A member that has received bytes. -/
def receiving (bs : List Byte) : State :=
  { memberAt 500 800 with lrx := { state := .receiving bs, checkOnly := false, lineCount := some 9 } }

/-- A state with an attempt in flight and its kind in the pending set. -/
def sending (s : State) (k : FrameKind) (lost fault : Nat) : State :=
  { s with ltx := { s.ltx with
      attempt := some { kind := k, frame := [], beforeRequest := false }
      pend := s.ltx.pend.put k (some { lost := lost, fault := fault, renewal := false }) } }

/-- A line check in progress. -/
def checking (m : CheckMode) (p : CheckPhase) (o : CheckOwner) : State :=
  { conf with
    ltx := { conf.ltx with check := { conf.ltx.check with run := some { mode := m, phase := p }, owner := some o } }
    lrx := { conf.lrx with state := .hunt true, checkOnly := true } }

/-- A state with a transaction in progress. -/
def inTransaction (s : State) : State := { s with lport := { s.lport with transaction := some [] } }

/-- A state with LTX notices waiting. -/
def noticed (s : State) (n : LtxNotice) : State := { s with notices := { s.notices with ltx := [n] } }

/-- A state whose line is recessive for so many units. -/
def quietFor (n : Nat) (s : State) : State := { s with ltx := { s.ltx with recessive := n } }

/-- A state whose last dominant level on SDL began so many units ago. -/
def dominantFor (n : Nat) (s : State) : State :=
  { s with pins := { s.pins with sdl := some n }, ltx := { s.ltx with recessive := 0 } }

/-- A state whose LRX has seen a dominant level begin after idle, so many units ago. -/
def startingFor (n : Nat) (s : State) : State :=
  { dominantFor n s with lrx := { s.lrx with state := .starting n } }

/-- A LIVE peer record. -/
def peer (x claim : Nat) : Peer :=
  { id := x, presence := .live, announced := some .member, committed := claim, floor := some 50, refreshed := true, quiet := 0
    profile := some 0, digestMatch := some true }

/-- A LEAVE frame of station 7. -/
def leaveFrame (count : Nat) : List Byte := buildFrame .leave 7 count []

/-- A record of a peer's frame. -/
def heard (mm : Bool) (d : Decoded) : FrameRecord :=
  { own := false, kind := some d.kind, sender := some 7, length := d.kind.frameBytes, content := .good mm d }

/-- A state with a record at the head of the queue. -/
def queued (s : State) (r : QueueRecord) : State := { s with rsq := { s.rsq with records := [r] } }

/-- A list of zero bytes, of which only the length matters. -/
def zeros (n : Nat) : List Byte := List.replicate n 0

/-- The state that a command leads to. -/
def after (c : Instr) (s : State) : Option State :=
  match exec c s with
  | .next t => some t
  | .fault _ | .refused _ => none

/-! ### WellFormed refuses -/

theorem test_ill_formed_peer_id :
    Instr.wellFormed (.peerLost 0) = false ∧ Instr.wellFormed (.peerLost 32) = false ∧
      Instr.wellFormed (.peerForgotten 0) = false ∧ Instr.wellFormed (.peerForgotten 32) = false ∧
      Instr.wellFormed (.peerLost 31) = true ∧ Instr.wellFormed (.peerForgotten 1) = true := by decide

theorem test_ill_formed_unknown_request :
    (requestCodes.all fun c => !Instr.wellFormed (.unknownRequest c)) = true ∧
      Instr.wellFormed (.unknownRequest 0x05) = true ∧ Instr.wellFormed (.unknownRequest 0x1B) = true := by decide

theorem test_ill_formed_parameters :
    ([Instr.readSnapshot, .readCounters, .configure, .setTarget, .clearAlarms, .lineCheck].all fun c =>
      !Instr.wellFormed (c (zeros 64)) && Instr.wellFormed (c (zeros 63))) = true := by decide +kernel

/-! ### Small examples from the spec -/

/-- R46: the outcome bytes the spec writes out. -/
theorem test_outcome_bytes :
    outcomeByte { number := 0, outcome := .granted, margin := some .zero, granted := 5, committedAfter := 5 } = 0x10 ∧
      outcomeByte { number := 0, outcome := .refused, margin := some .positive, granted := 0, committedAfter := 5 } = 0x21 ∧
      outcomeByte { number := 0, outcome := .withdrawn, margin := none, granted := 0, committedAfter := 5 } = 0x03 := by decide

/-- R42: the kind codes and the frame lengths. -/
theorem test_kind_table :
    [FrameKind.announce, .intent, .check, .leave, .settle].map (fun k => (k.code, k.frameBytes)) =
      [(1, 16), (2, 13), (3, 22), (4, 6), (8, 12)] := by decide

/-- R41: a LEAVE of station 7 with line count 10: kind 4, sender 7, the count low byte first. -/
theorem test_leave_header : (leaveFrame 10).take 4 = [0x04, 0x07, 0x0A, 0x00] ∧ (leaveFrame 10).length = 6 := by decide +kernel

/-- R48: one bit of the CRC changed, a kind code that names none, sender 0. -/
theorem test_classification :
    classify (leaveFrame 10) = .good .leave ∧
      classify ((leaveFrame 10).set 5 0) = .crcError ∧
      classify (0x05 :: 0x07 :: [0x0A, 0x00] ++ u16 (crc [0x05, 0x07, 0x0A, 0x00]).toNat) = .formatError ∧
      classify (buildFrame .leave 0 10 []) = .formatError := by decide +kernel

/-- The times of the codes of R153, R154, R152 and R156, in units of 0.25 µs. -/
theorem test_code_tables :
    (List.range 4).map blankingTicks = [0, 2, 4, 8] ∧ (List.range 4).map qualifyTicks = [0, 1, 2, 4] ∧
      (List.range 4).map followTicks = [0, 400, 2000, 8000] ∧
      [TripMode.retry20, .retry50, .retryEdge].map holdTicks = [80, 200, 400] := by decide

/-- R14: the line count after frame counts at, one past, 32767 past, 32768 past and 65535 past the expected 10. -/
theorem test_line_count :
    [10, 11, 32777, 32778, 9].map (countStep (some 9)) =
      [(10, false), (11, true), (32777, true), (10, true), (10, true)] ∧ countStep none 77 = (77, false) := by decide +kernel

/-- R17, R18: losses pending at a removal make a LOSS record, or grow the one at the tail up to 255. -/
theorem test_loss_records :
    Rsq.removeHead { records := [.loss 3, .frame (heard false .leave)], pendingLoss := 2 } =
        { records := [.frame (heard false .leave), .loss 2], pendingLoss := 0 } ∧
      Rsq.removeHead { records := [.frame (heard false .leave), .loss 250], pendingLoss := 9 } =
        { records := [.loss 255], pendingLoss := 0 } := by decide

/-- R131: with a view total of 1800 and a budget of 1200 a claim of 1200 falls to 799. -/
theorem test_proportional_shed :
    State.shedClaim { memberAt 1200 1200 with view := { (memberAt 1200 1200).view with peers := [peer 9 600] } } 1200 = 799 := by
  decide +kernel

/-- R186: after a full reset the response slot shows UNKNOWN with request code 0x00 and no data. -/
theorem test_slot_after_reset : State.reset.lport.slot.bytes = [0x04, 0x00] := by decide

/-- R183: the lengths of the records at the port. -/
theorem test_record_lengths :
    conf.statusRecord.length = 29 ∧ conf.lport.counters.bytes.length = 16 ∧ (peerBytes (peer 9 600)).length = 12 := by decide +kernel

/-- R69: the reference station is the LIVE peer of lowest ID below the own one. -/
theorem test_reference :
    referenceOf 5 [peer 3 1, peer 4 1, peer 9 1] = some 3 ∧
      referenceOf 5 [{ peer 3 1 with presence := .lost }, peer 4 1] = some 4 ∧ referenceOf 5 [peer 9 1] = none := by decide

/-! ### Witnesses: the block as a whole -/

theorem witness_FullReset :
    State.reset.rst.held = true ∧ State.rst { up with rst := { held := false, blind := some 0 } } = { held := false, blind := some 0 } := by
  decide

theorem witness_TimePasses :
    (up.pending = [] ∧ up.rst.held = false ∧ up.dueEvents = [] ∧ up.ceTakes = []) ∧
      (State.reset.pending = [] ∧ State.reset.rst.held = true ∧ State.reset.dueEvents = [] ∧ State.reset.ceTakes = []) ∧
      (noticed up .recalled).pending = [] ∧ ¬((noticed up .recalled).dueEvents = [] ∧ (noticed up .recalled).ceTakes = []) := by
  decide +kernel

theorem witness_AbsentOccasionChangesNothing :
    (up.ltx.announce ≠ some 0 ∧ up.ltx.check.repeatTimer ≠ some 0 ∧ up.view.duplicate ≠ some 0 ∧
        (up.own.hold ≠ some 0 ∨ up.own.intentState ≠ .window) ∧ (up.own.retry ≠ some 0 ∨ up.own.intentState ≠ .retryWait) ∧
        (up.own.listen ≠ some 0 ∨ up.own.attach ≠ .listening) ∧ up.slu.recovery ≠ some 0 ∧ up.cmon.blanking ≠ some 0 ∧
        (up.cmon.hold ≠ some 0 ∨ up.cmon.trip ≠ .hold) ∧ up.cmon.clean ≠ some 0 ∧ up.cmon.follow ≠ some 0 ∧
        up.rst.blind ≠ some 0 ∧ up.rst.held = false ∧ up.ltx.attempt = none ∧
        (up.own.attach = .detached ∨ up.rsq.records = []) ∧ up.notices.ltx = [] ∧ up.notices.slu = [] ∧ up.notices.au = [] ∧
        up.notices.pfu = []) ∧
      (∃ a, (sending conf .announce 0 0).ltx.attempt = some a) ∧ (memberAt 500 800).rsq.records = [] ∧
      ((∀ t ∈ [0, 9], (startingFor t (attachedAs .member)).lrx.state = .starting t ∧
          (startingFor t (attachedAs .member)).pins.sdl ≠ none) ∧ 4 * 0 < (attachedAs .member).bitTime ∧
        9 * (attachedAs .member).bitTime ≤ 4 * 9 ∧ conf.lrx.state = .disabled ∧ (dominantFor 7 conf).pins.sdl = some 7 ∧
        7 < 2 * conf.bitTime ∧ (quietFor 7 conf).pins.sdl = none ∧ (quietFor 7 conf).ltx.recessive < 2 * conf.bitTime) ∧
      ((receiving (zeros 23)).lrx.state = .receiving (zeros 23) ∧ (zeros 23).length ≠ 24) ∧
      (conf.own.attach ≠ .member ∧ (memberAt 5 5).cmon.reached = false ∧ (memberAt 5 5).pins.sense ≤ (memberAt 5 5).threshold) := by
  refine ⟨by decide, ⟨_, rfl⟩, by decide +kernel, by decide, by decide, by decide +kernel⟩

/-- A member whose isolation timer has reached 40P, with both notices of this run given. -/
def noticesGiven : State :=
  { attachedAs .member with ltx := { conf.ltx with isolation := some 1600000, isolationInd := true, rejoinGiven := true } }

theorem witness_AbsentOccasion_notices_given :
    noticesGiven.ltx.isolationInd = true ∧ noticesGiven.ltx.rejoinGiven = true ∧
      [Instr.isolationTimer3P, .isolationTimer40P].map (fun c => after c noticesGiven) = [some noticesGiven, some noticesGiven] ∧
      40 * noticesGiven.period ≤ 1600000 := by
  decide +kernel

theorem witness_AbsentOccasion_not_in_front :
    (∀ c ∈ [Instr.sentNotice, .checkPassed, .shedStartNotice, .profileChangeEvent], c ∉ (noticed up .recalled).ceTakes) ∧
      ∀ c ∈ [Instr.takeAnnounce, .takeErrorRecord, .takeCheckRecord],
        c ∉ (queued (attachedAs .member) (.frame (heard false .leave))).ceTakes := by
  decide +kernel

theorem witness_AbsentOccasion_receiver_and_peers :
    (∀ bs, (attachedAs .member).lrx.state ≠ .receiving bs) ∧
      (∀ p, findPeer 9 [{ peer 9 1 with quiet := 199999 }] = some p → p.presence = .lost ∨ p.quiet < 5 * conf.period) ∧
      ∀ p, findPeer 9 [{ peer 9 1 with presence := .lost, quiet := 1999999 }] = some p →
        p.presence = .live ∨ p.quiet < 50 * conf.period := by
  refine ⟨?_, ?_, ?_⟩
  · intro bs h; cases h
  · intro p h; cases h; right; decide +kernel
  · intro p h; cases h; right; decide +kernel

theorem witness_AbsentOccasion_timers_that_count_up (s : State)
    (h : s = { conf with
      ltx := { conf.ltx with isolation := some 119999 }, pfu := { conf.pfu with settle := some 3999 }
      slu := { conf.slu with filter := some 7 } }) :
    (∀ n, s.ltx.isolation = some n → n < 3 * s.period) ∧ (∀ n, s.ltx.isolation = some n → n < 40 * s.period) ∧
      (∀ n, s.pfu.settle = some n → n < msTicks) ∧ ∀ n, s.slu.filter = some n → n < 2 * usTicks := by
  subst h
  refine ⟨?_, ?_, ?_, ?_⟩ <;> (rintro n h; cases h; decide)

/-! ### Witnesses: the receiver and the queue -/

/-- A member whose attempt has met a transmit fault in the middle of a frame, so many units ago. -/
def faulted (n : Nat) : State :=
  let s := quietFor n (attachedAs .member)
  { s with lrx := { s.lrx with state := .discard }, ltx := { s.ltx with edgeUntold := true } }

theorem witness_ReceiverEvents :
    ((∀ t ∈ [0, 8], (dominantFor t (attachedAs .member)).lrx.state = .hunt true ∧
        (dominantFor t (attachedAs .member)).pins.sdl = some t) ∧
      (attachedAs .member).lrx.state = .hunt true ∧ (attachedAs .member).pins.sdl = none) ∧
      (∀ age ∈ [0, 1, 8, 9], (startingFor age (attachedAs .member)).lrx.state = .starting age ∧
        (startingFor age (attachedAs .member)).pins.sdl ≠ none) ∧
      ((attachedAs .member).bitTime ≤ 4 * 1 ∧ 4 * 8 < 9 * (attachedAs .member).bitTime ∧ 4 * 0 < (attachedAs .member).bitTime ∧
        9 * (attachedAs .member).bitTime ≤ 4 * 9 ∧ 2 * (attachedAs .member).bitTime ≤ 8) ∧
      (∀ x ∈ [LrxState.hunt false, .discard, .starting 3],
        let s := quietFor 8 { attachedAs .member with lrx := { conf.lrx with state := x } }
        s.lrx.state = x ∧ s.pins.sdl = none ∧ 2 * s.bitTime ≤ s.ltx.recessive ∧
          (quietFor 7 s).ltx.recessive < 2 * s.bitTime) ∧
      (let s := faulted 7
       s.lrx.state = .discard ∧ s.pins.sdl = none ∧ s.ltx.edgeUntold = true ∧ s.ltx.recessive < 2 * s.bitTime) ∧
      ((dominantFor 8 conf).lrx.state = .disabled ∧ (quietFor 8 conf).pins.sdl = none ∧
        2 * conf.bitTime ≤ (quietFor 8 conf).ltx.recessive) ∧
      ((receiving (zeros 3)).lrx.state = .receiving (zeros 3) ∧ (zeros 3).length < 4) ∧
      ((receiving (zeros 4)).lrx.state = .receiving (zeros 4) ∧ 4 ≤ (zeros 4).length) ∧
      (receiving (zeros 24)).lrx.state = .receiving (zeros 24) ∧ (zeros 24).length = 24 := by decide

theorem witness_RecordEntersQueue :
    (checking .single .sending .host).lrx.checkOnly = true ∧
      (let s := { attachedAs .member with rsq := { records := List.replicate 7 (.loss 1), pendingLoss := 0 } }
       s.lrx.checkOnly = false ∧ s.rsq.records.length < 8) ∧
      (heard false .leave).content = .good false .leave ∧ (heard true .leave).content = .good true .leave ∧
      (let s := { attachedAs .member with rsq := { records := List.replicate 8 (.loss 1), pendingLoss := 0 } }
       s.lrx.checkOnly = false ∧ 8 ≤ s.rsq.records.length) := by decide

theorem witness_RecordEntersQueue_error : ∀ mm d, Content.crcError ≠ .good mm d := by simp

theorem witness_LossPlacement : (1 : Nat) ≠ 0 ∧ (255 : Nat) ≠ 0 := by decide

theorem witness_WholeByteAssembles :
    ((receiving (zeros 23)).lrx.state = .receiving (zeros 23) ∧ (zeros 23).length < 24 ∧ (receiving (zeros 23)).ltx.attempt = none) ∧
      (∀ k ∈ [0, 7], ∃ a, (sending (receiving (zeros (5 + 2 * k))) .check 0 0).ltx.attempt = some a ∧ a.kind = .check ∧
        (sending (receiving (zeros (5 + 2 * k))) .check 0 0).ltx.capture.frozen = false ∧ k < 8 ∧
        (zeros (5 + 2 * k)).length = 5 + 2 * k ∧ (zeros (5 + 2 * k)).length < 24) ∧
      (∀ k < 8, (zeros 4).length ≠ 5 + 2 * k) ∧ (∀ k < 8, (zeros 21).length ≠ 5 + 2 * k) ∧
      (receiving (zeros 24)).lrx.state = .receiving (zeros 24) ∧ (zeros 24).length = 24 := by
  refine ⟨by decide, ?_, by decide, by decide, by decide⟩
  intro k hk
  refine ⟨_, rfl, rfl, rfl, ?_, by simp [zeros], ?_⟩
  · simp only [List.mem_cons, List.not_mem_nil, or_false] at hk; omega
  · simp only [List.mem_cons, List.not_mem_nil, or_false] at hk; simp only [zeros, List.length_replicate]; omega

/-- An ANNOUNCE of a member with claim 10, floor 5 and digest 7. -/
def announceFields : AnnounceFields :=
  { attach := .member, profile := 0, committed := 10, floor := 5, digest := 7, openIntent := none }

/-- The same as station 3 sends it. -/
def announceFrame : List Byte := buildFrame .announce 3 10 (announcePayload announceFields)

/-- A member that has received the ANNOUNCE of station 3, its reference station, while its announce timer runs. -/
def aligned : State :=
  let s := receiving announceFrame
  { s with view := { s.view with reference := some 3 }, ltx := { s.ltx with announce := some 77 } }

theorem witness_EndOfFrame :
    (aligned.lrx.state = .receiving announceFrame ∧ classify announceFrame = .good (.announce announceFields) ∧
      aligned.lrx.checkOnly = false ∧ aligned.ltx.announce.isSome = true ∧
      aligned.view.reference = some (frameSender announceFrame)) ∧
      (receiving (leaveFrame 10)).lrx.state = .receiving (leaveFrame 10) ∧ (receiving (leaveFrame 10)).ltx.announce = none := by
  decide +kernel

theorem witness_LineCount :
    (∀ n ∈ [10, 11, 32777, 32778, 9], classify (leaveFrame n) = .good .leave ∧ frameCount (leaveFrame n) = n) ∧
      Decoded.kind .leave ≠ .check ∧ (receiving (leaveFrame 10)).lrx.checkOnly = false ∧
      (receiving (leaveFrame 10)).lrx.lineCount = some 9 ∧ (receiving (leaveFrame 10)).rsq.records.length < 8 ∧
      frameCount (leaveFrame 10) = (9 + 1) % 65536 ∧
      (frameCount (leaveFrame 11) + 65536 - (9 + 1) % 65536) % 65536 = 1 ∧
      (frameCount (leaveFrame 32777) + 65536 - (9 + 1) % 65536) % 65536 = 32767 ∧
      (frameCount (leaveFrame 32778) + 65536 - (9 + 1) % 65536) % 65536 = 32768 ∧
      (frameCount (leaveFrame 9) + 65536 - (9 + 1) % 65536) % 65536 = 65535 := by decide +kernel

theorem witness_LineCount_unset_and_check_only :
    (attachedAs .member).lrx.lineCount = none ∧ (checking .single .sending .host).lrx.checkOnly = true ∧
      classify (buildFrame .check 7 0 (checkPayload [1, 2, 3, 4, 5, 6, 7, 8])) = .good .check := by decide +kernel

theorem witness_Classification :
    (zeros 3).length < 4 ∧ (zeros 4).length = 4 ∧ (zeros 5).length = 5 ∧
      (6 ≤ (zeros 6).length ∧ wordAt (zeros 6) ((zeros 6).length - 2) ≠ (crc ((zeros 6).take ((zeros 6).length - 2))).toNat) ∧
      6 ≤ (leaveFrame 10).length ∧
      wordAt (leaveFrame 10) ((leaveFrame 10).length - 2) = (crc ((leaveFrame 10).take ((leaveFrame 10).length - 2))).toNat := by
  decide +kernel

/-- The example of 03 section 3: an ANNOUNCE of station 4 with state byte 0xC2, intent number 7, increment 300 and stated count
504. -/
def disregarded : List Byte := buildFrame .announce 4 504 [0xC2, 10, 0, 5, 0, 7, 0x2C, 0x01, 7, 0]

theorem witness_Classification_good :
    classify disregarded = .good (.announce announceFields) ∧ frameCount disregarded = 504 := by decide +kernel

/-- R49: a DEFERRED settlement carries no margin class, whatever bits 4 and 5 of its outcome byte hold. -/
theorem test_disregarded_margin :
    [0x02, 0x12, 0x22].map (fun b => classify (buildFrame .settle 4 1 [9, b, 0, 0, 10, 0])) =
      List.replicate 3 (.good (.settle
        { number := 9, outcome := .deferred, margin := none, granted := 0, committedAfter := 10 })) := by decide +kernel

theorem witness_FramesRoundTrip :
    (1 ≤ 31 ∧ 31 ≤ 31 ∧ 65535 ≤ 65535) ∧
      (∀ n d, some (255, 4095) = some (n, d) → n ≤ 255 ∧ 1 ≤ d ∧ d ≤ 4095) ∧
      (∀ f : SettleFields, f = { number := 255, outcome := .granted, margin := some .positive, granted := 1, committedAfter := 4095 } →
        f.number ≤ 255 ∧ f.granted ≤ 4095 ∧ f.committedAfter ≤ 4095 ∧
          (f.outcome = .granted → (f.margin = some .zero ∨ f.margin = some .positive) ∧ 1 ≤ f.granted) ∧
          (f.outcome = .refused → f.margin.isSome = true) ∧
          (f.outcome = .deferred ∨ f.outcome = .withdrawn → f.margin = none) ∧ (f.outcome ≠ .granted → f.granted = 0)) ∧
      [1, 2, 3, 4, 5, 6, 7, 65535].length = 8 := by
  refine ⟨by decide, ?_, ?_, by decide⟩
  · intro n d h
    simp only [Option.some.injEq, Prod.mk.injEq] at h
    omega
  · rintro f rfl; decide

theorem witness_CellsRoundTrip :
    (zeros 24).length ≤ 24 ∧ 25 ≤ (zeros 25).length ∧
      (∀ c1 ∈ [((.dominant, .recessive) : Cell), (.dominant, .dominant)], c1.1 = .dominant) ∧
      (∀ c2 ∈ [((.recessive, .dominant) : Cell), (.dominant, .recessive), (.dominant, .dominant)], c2 ≠ (.recessive, .recessive)) ∧
      List.length [true, false, true, false, true, false, true] < 8 ∧ [false] ≠ [] := by decide

/-- R5, R7: malformed starts, and violations inside a byte and at a byte boundary. -/
theorem test_cells_that_break_a_frame :
    [[dominantCell, dominantCell], [dominantCell, bitCell true], [bitCell false, recessiveCell]].map readStart =
        List.replicate 3 [.malformedStart] ∧
      [[recessiveCell], [bitCell true, dominantCell], [dominantCell, bitCell false], [dominantCell, recessiveCell, bitCell true]].map
          (fun cs => readStart (sodCells ++ byteCells 0x04 ++ cs)) =
        List.replicate 4 [.startDelimiter, .wholeByte 0x04, .violation] := by decide +kernel

theorem witness_ArbitrationOrder :
    (FrameKind.settle, FrameKind.leave) ∈ [(FrameKind.settle, FrameKind.leave)] ∧ (0 ≤ 31 ∧ 31 ≤ 31 ∧ (0 : Nat) ≠ 31) := by decide

/-! ### Witnesses: the transmitter -/

theorem witness_RequestsToTheTransmitter :
    ((attachedAs .member).requestTaken .check = false) ∧
      ((attachedAs .member).requestTaken .announce = true ∧ (attachedAs .member).ltx.pend.get .announce = none) ∧
      (let s := sending (attachedAs .member) .intent 0 0
       s.requestTaken .intent = true ∧ (s.ltx.pend.get .intent).isSome = true ∧ (s.ltx.attempt.map (·.kind)) = some .intent) ∧
      (let s := { sending (attachedAs .member) .announce 0 0 with ltx :=
          { (sending (attachedAs .member) .announce 0 0).ltx with attempt := none } }
       s.requestTaken .announce = true ∧ (s.ltx.pend.get .announce).isSome = true ∧ s.ltx.attempt = none ∧ s.ltx.pend.intent = none) ∧
      (let s := { sending (attachedAs .member) .intent 0 0 with ltx :=
          { (sending (attachedAs .member) .intent 0 0).ltx with attempt := none } }
       s.ltx.attempt = none ∧ s.ltx.pend.intent.isSome = true) := by decide

/-- A member with ANNOUNCE waiting and the line recessive for so many units. -/
def waiting (n : Nat) : State :=
  let s := attachedAs .member
  { s with ltx := { s.ltx with recessive := n, pend := s.ltx.pend.put .announce (some { lost := 0, fault := 0, renewal := false }) } }

theorem witness_AttemptBegins :
    (let s := waiting 96
     s.ltx.attempt = none ∧ s.rst.held = false ∧ s.own.attach ≠ .detached ∧ s.ltx.pend.candidate = some .announce ∧
       24 * s.bitTime ≤ s.ltx.recessive) ∧
      ((waiting 95).ltx.pend.candidate = some .announce ∧ (waiting 95).ltx.recessive < 24 * (waiting 95).bitTime ∧
        (waiting 95).pins.sdl = none) ∧
      (∀ b ∈ [94, 95], ∀ t ∈ [1, 2],
        let s := dominantFor t (waiting 0)
        let s := { s with ltx := { s.ltx with recessiveBefore := b } }
        s.ltx.attempt = none ∧ s.rst.held = false ∧ s.own.attach = .member ∧ s.ltx.pend.candidate = some .announce ∧
          s.ltx.recessive < 24 * s.bitTime ∧ s.pins.sdl = some t ∧ s.ltx.recessiveBefore = b) ∧
      (4 * 1 ≤ conf.bitTime ∧ 24 * conf.bitTime ≤ 95 + 1 ∧ 94 + 1 < 24 * conf.bitTime ∧ conf.bitTime < 4 * 2) ∧
      (let s := intentIn .window
       s.own.attach = .member ∧ s.lport.config = some record ∧ s.lport.digest = some 0x1234 ∧ s.own.current.isSome = true) ∧
      ((memberAt 5 5).own.intentState ≠ .window ∧ (memberAt 5 5).own.intentState ≠ .opening) ∧
      State.own { conf with own := { conf.own with resolution := some ⟨1, .withdrawn, none, 0, 0⟩ } } =
        { conf.own with resolution := some ⟨1, .withdrawn, none, 0, 0⟩ } := by decide

theorem witness_AttemptFails :
    (∀ k ∈ [FrameKind.settle, .leave, .intent, .announce], ∀ n ∈ [0, 14, 15], ∀ m ∈ [0, 2, 3],
      (sending (attachedAs .member) k n m).ltx.attempt = some { kind := k, frame := [], beforeRequest := false } ∧ k ≠ .check ∧
        (sending (attachedAs .member) k n m).ltx.pend.get k = some { lost := n, fault := m, renewal := false } ∧
        (sending (attachedAs .member) k n m).ltx.recallHeld = false) ∧
      (let s := { sending (attachedAs .member) .intent 3 1 with
          ltx := { (sending (attachedAs .member) .intent 3 1).ltx with recallHeld := true } }
       (s.ltx.pend.get .intent).isSome = true ∧ s.ltx.recallHeld = true) ∧
      (let s := { sending (attachedAs .member) .announce 3 1 with
          ltx := { (sending (attachedAs .member) .announce 3 1).ltx with pend := .empty } }
       s.ltx.pend.get .announce = none ∧ s.ltx.recallHeld = false) := by decide

theorem witness_AttemptSent :
    up.ltx.attempt = none ∧
      ((sending (attachedAs .member) .intent 0 0).ltx.attempt = some { kind := .intent, frame := [], beforeRequest := false } ∧
        FrameKind.intent ≠ .check) ∧
      (sending (attachedAs .member) .intent 0 0).lrx.state = .hunt true := by decide

theorem witness_AttemptSent_outside_receiving : ∀ bs, LrxState.hunt true ≠ .receiving bs := by simp

theorem witness_CheckAttemptEnds :
    (∀ m ∈ [CheckMode.single, .untilFail, .continuous], ∀ p ∈ [CheckPhase.sending, .stopping], ∀ o ∈ [CheckOwner.host, .join],
      (sending (checking m p o) .check 0 0).ltx.attempt = some { kind := .check, frame := [], beforeRequest := false } ∧
        (sending (checking m p o) .check 0 0).ltx.check.run = some { mode := m, phase := p } ∧
        (sending (checking m p o) .check 0 0).ltx.check.owner = some o ∧
        (sending (checking m p o) .check 0 0).ltx.pend.check = some { lost := 0, fault := 0, renewal := false }) := by decide

theorem witness_TransmitterTimers :
    (let s := { conf with ltx := { conf.ltx with announce := some 0, isolation := some 1600000 } }
     s.ltx.announce = some 0 ∧ s.ltx.isolation = some 1600000 ∧ 3 * s.period ≤ 1600000 ∧ 40 * s.period ≤ 1600000 ∧
       s.ltx.isolationInd = false ∧ s.ltx.rejoinGiven = false) ∧
      (let c := checking .continuous .waiting .host
       let s := { c with ltx := { c.ltx with check := { c.ltx.check with repeatTimer := some 0 } } }
       s.ltx.check.repeatTimer = some 0 ∧ s.ltx.check.run = some { mode := .continuous, phase := .waiting }) := by decide +kernel

/-! ### Witnesses: the Claim Engine -/

theorem witness_EndOfCeEvent :
    (∀ s ∈ [attachedAs .joining, memberAt 500 501],
      s.own.intentState = .idle ∧ (s.own.attach = .joining ∨ (s.own.attach = .member ∧ s.own.committed < s.own.target)) ∧
        s.certain = true ∧ s.shedInEffect = false ∧ s.own.isolated = false ∧ s.au.flags &&& s.au.forceMask = 0) ∧
      (let s := memberAt 500 500
       s.own.attach = .member ∧ ¬ s.own.committed < s.own.target) := by decide +kernel

theorem witness_OutputsSettle :
    conf.own.attach ≠ .member ∧
      (memberAt 500 800).own.attach = .member ∧
      ((memberAt 500 800).shedInEffect = false ∧ (memberAt 500 800).own.isolated = false ∧
        (memberAt 500 800).au.flags &&& (memberAt 500 800).au.forceMask = 0) ∧
      State.shedInEffect { memberAt 500 800 with slu := { conf.slu with recovery := some 5 } } = true ∧
      (let s := { memberAt 500 800 with oc := { effRef := 600, gate := true } }
       s.settle.oc.effRef < s.oc.effRef ∧ s.followTime ≠ 0) ∧
      (let s := { memberAt 500 800 with oc := { effRef := 600, gate := true }, lport :=
          { conf.lport with config := some { record with follow := 0 } } }
       s.settle.oc.effRef < s.oc.effRef ∧ s.followTime = 0) ∧
      (let s := { memberAt 500 800 with oc := { effRef := 400, gate := true }, cmon := { conf.cmon with grace := 500 } }
       s.oc.effRef < s.settle.oc.effRef ∧ s.cmon.grace ≤ s.settle.oc.effRef) ∧
      (let s := { memberAt 500 800 with oc := { effRef := 400, gate := true }, cmon := { conf.cmon with grace := 501 } }
       s.oc.effRef < s.settle.oc.effRef ∧ s.settle.oc.effRef < s.cmon.grace) ∧
      (let s := { memberAt 500 800 with oc := { effRef := 500, gate := true }, pins := { conf.pins with sense := 521 } }
       s.settle.oc.effRef = s.oc.effRef ∧ s.cmon.trip ≠ .latched ∧ s.settle.threshold < s.pins.sense) ∧
      (let s := { memberAt 500 800 with oc := { effRef := 500, gate := true }, pins := { conf.pins with sense := 520 } }
       s.cmon.blanking = none ∧ s.pins.sense ≤ s.settle.threshold) := by decide +kernel

theorem witness_PeerTableOperations :
    findPeer 3 [peer 9 1] = none ∧ (findPeer 9 [peer 9 1]).isSome = true ∧
      [peer 3 1, peer 9 1].Pairwise (fun p q => p.id < q.id) ∧ referenceOf 5 [peer 3 1, peer 9 1] = some 3 ∧
      (findEntry 9 [peerEntry 9 4 10 .intent]).map (·.number) = some 4 ∧ findEntry 3 [peerEntry 9 4 10 .intent] = none := by decide

theorem witness_TakePeerRecords :
    (∀ s ∈ [attachedAs .listening, memberAt 500 800], ∀ mm ∈ [false, true],
      ∀ d ∈ [Decoded.announce ⟨.member, 0, 10, 5, 7, none⟩, .intent ⟨1, 5, 5, 10⟩, .settle ⟨1, .granted, some .zero, 5, 15⟩, .leave],
      (queued s (.frame (heard mm d))).own.attach ≠ .detached ∧
        (queued s (.frame (heard mm d))).rsq.records = [.frame (heard mm d)] ∧ (heard mm d).own = false ∧
        (heard mm d).sender = some 7 ∧ 7 ≠ s.ownId ∧ (heard mm d).content = .good mm d) ∧
      (findEntry 7 [peerEntry 7 1 5 .intent]).map (·.number) = some 1 := by decide +kernel

theorem witness_TakeSettle_unmatched :
    (∀ e, findEntry 7 [peerEntry 7 2 5 .intent] = some e → e.number ≠ 1) ∧ ∀ e, findEntry 7 [] = some e → e.number ≠ 1 := by
  refine ⟨?_, ?_⟩
  · intro e h; cases h; decide
  · intro e h; cases h

/-- The record of the own current intent, read back. -/
def readback : FrameRecord :=
  { own := true, kind := some .intent, sender := some 5, length := 13, content := .good false (.intent ⟨7, 300, 1, 500⟩) }

theorem witness_TakeOwnRecord :
    (let s := queued (attachedAs .leaving) (.frame readback)
     s.own.attach = .leaving ∧ s.rsq.records = [.frame readback] ∧ readback.own = true) ∧
      (let s := queued (intentIn .opening) (.frame readback)
       s.own.attach ≠ .detached ∧ s.own.attach ≠ .leaving ∧ s.own.intentState = .opening ∧
         s.own.current = some ⟨7, 300, 1, 500⟩ ∧ readback.content = .good false (.intent ⟨7, 300, 1, 500⟩) ∧
         s.own.withdrawMark = false ∧ s.own.sentMark = false) ∧
      (intentIn .window).own.intentState ≠ .opening ∧
      (let s := { intentIn .opening with own := { (intentIn .opening).own with withdrawMark := true, sentMark := true } }
       s.own.withdrawMark = true ∧ s.own.sentMark = true) := by decide +kernel

theorem witness_TakeOtherRecords :
    (let r : FrameRecord := { heard false .leave with sender := some 5 }
     (queued (memberAt 5 5) (.frame r)).rsq.records = [.frame r] ∧ r.own = false ∧ r.sender = some (memberAt 5 5).ownId ∧
       r.content = .good false .leave ∧ Decoded.leave ≠ .check) ∧
      (queued (intentIn .opening) (.loss 1)).rsq.records = [.loss 1] ∧ (intentIn .opening).own.sentMark = false ∧
      (memberAt 5 5).own.intentState ≠ .opening ∧ (heard false .check).content = .good false .check := by decide +kernel

theorem witness_ViewAndClaimTimers :
    (let p := { peer 9 1 with quiet := 200000 }
     findPeer 9 [p] = some p ∧ p.presence = .live ∧ 5 * conf.period ≤ p.quiet) ∧
      (let p := { peer 9 1 with presence := .lost, quiet := 2000000 }
       findPeer 9 [p] = some p ∧ p.presence = .lost ∧ 50 * conf.period ≤ p.quiet) ∧
      State.view { conf with view := { conf.view with duplicate := some 0 } } = { conf.view with duplicate := some 0 } ∧
      (let s := { intentIn .retryWait with own := { (intentIn .retryWait).own with retry := some 0 } }
       s.own.intentState = .retryWait ∧ s.own.retry = some 0) ∧
      (let s := { attachedAs .listening with own := { (attachedAs .listening).own with listen := some 0 } }
       s.own.attach = .listening ∧ s.own.listen = some 0) := by decide +kernel

theorem witness_ViewCounts :
    (∀ x ∈ [peerEntry 9 1 5 .intent], x.own = false) ∧ ({ peerEntry 5 1 5 .intent with own := true } : Entry).own = true := by decide

/-- A member in its window, with its own entry at the head of the list and the given entries behind it, at the expiry. -/
def deciding (budget : Nat) (behind : List Entry) : State :=
  let s := intentIn .window
  { s with
    own := { s.own with hold := some 0 }
    view := { s.view with intents := { station := 5, number := 7, delta := 300, origin := .intent, own := true } :: behind }
    pfu := { s.pfu with budget := budget } }

theorem witness_DecisionAtHoldExpiry :
    (∀ s ∈ [deciding 499 [], deciding 500 [], deciding 501 [], deciding 2000 []],
      s.own.intentState = .window ∧ s.own.hold = some 0 ∧ s.own.current = some ⟨7, 300, 1, 500⟩ ∧
        pendingAhead s.view.intents = some 0 ∧ s.shedInEffect = false ∧ s.own.isolated = false ∧
        s.au.flags &&& s.au.forceMask = 0 ∧ s.certain = true ∧ ∀ p ∈ s.view.peers, p.presence = .lost) ∧
      [deciding 499 [], deciding 500 [], deciding 501 [], deciding 2000 []].map State.headroom = [-1, 0, 1, 1500] ∧
      (deciding 2000 []).own.committed + 300 = (deciding 2000 []).own.target ∧
      (let s := { deciding 2000 [] with own := { (deciding 2000 []).own with isolated := true } }
       s.own.isolated = true) ∧
      (let s := { deciding 2000 [] with au := { conf.au with flags := 0x0010 } }
       s.au.flags &&& s.au.forceMask ≠ 0) ∧
      (let s := { deciding 2000 [] with view := { (deciding 2000 []).view with peers := [{ peer 9 1 with refreshed := false }] } }
       s.certain = false) ∧
      (let s := { deciding 2000 [] with own := { (deciding 2000 []).own with target := 600 } }
       s.own.target < s.own.committed + 300 ∧ max s.own.target s.floor < s.own.committed + 300) ∧
      (let s := { deciding 2000 [] with
          own := { (deciding 2000 []).own with target := 0, committed := 0, attach := .joining }
          lport := { conf.lport with config := some { record with floor := 300 } } }
       s.own.target < s.own.committed + 300 ∧ max s.own.target s.floor = s.own.committed + 300) := by decide +kernel

/-- A headroom of 1, below a least increment of 2; shed in effect; an unconfirmed intent beside a LIVE peer. -/
theorem witness_Decision_least_increment_shed_unconfirmed :
    (let s := { deciding 501 [] with own := { (deciding 501 []).own with current := some ⟨7, 300, 2, 500⟩ } }
     s.own.intentState = .window ∧ s.own.hold = some 0 ∧ s.own.current = some ⟨7, 300, 2, 500⟩ ∧
       pendingAhead s.view.intents = some 0 ∧ s.headroom = 1 ∧ 0 < s.headroom ∧ s.headroom < 2 ∧ s.certain = true ∧
       s.shedInEffect = false ∧ s.own.isolated = false ∧ s.au.flags &&& s.au.forceMask = 0 ∧
       ∀ p ∈ s.view.peers, p.presence = .lost) ∧
      (let s := { deciding 2000 [] with slu := { conf.slu with observed := .asserted } }
       s.own.hold = some 0 ∧ s.shedInEffect = true) ∧
      (let s := { deciding 2000 [] with view := { (deciding 2000 []).view with peers := [peer 9 1] } }
       s.own.hold = some 0 ∧ s.own.confirmed = false ∧ s.certain = true ∧ s.shedInEffect = false ∧ s.own.isolated = false ∧
         s.au.flags &&& s.au.forceMask = 0 ∧ ∃ p ∈ s.view.peers, p.presence = .live) := by decide +kernel

theorem witness_Decision_learned_behind :
    ∃ front e back x, (deciding 2000 [peerEntry 9 1 5 .learned]).view.intents = front ++ e :: back ∧
      (∀ y ∈ front, y.own = false) ∧ e.own = true ∧ x ∈ back ∧ x.origin = .learned :=
  ⟨[], _, [peerEntry 9 1 5 .learned], peerEntry 9 1 5 .learned, rfl, by simp, rfl, by simp, rfl⟩

theorem witness_Decision_no_learned_behind (front : List Entry) (e : Entry) (back : List Entry) (x : Entry)
    (h : (deciding 2000 []).view.intents = front ++ e :: back) (hx : x ∈ back) : x.origin = .intent := by
  cases front with
  | nil => cases h; cases hx
  | cons a l => cases l <;> simp [deciding] at h

theorem witness_ResolutionsAndWithdrawal :
    ((intentIn .window).own.current.isSome = true) ∧
      ((intentIn .opening).own.intentState = .opening ∧ (intentIn .opening).own.withdrawMark = false) ∧
      (intentIn .window).own.intentState = .window ∧ (intentIn .settling).own.intentState = .settling ∧
      Notices.slu { ltx := [.checkFailed], slu := [.shedStart], au := [.forceAlarm .trip], pfu := [] } = [.shedStart] ∧
      (∀ f ∈ [some 8, some 7], ∀ o ∈ [ShdObserved.released, .asserted], ∀ l ∈ [Level.dominant, .recessive],
        let s := { conf with
          notices := { conf.notices with slu := [.shedEnd], au := [.cleared] }
          pins := { conf.pins with shd := l }, slu := { conf.slu with filter := f, observed := o } }
        s.notices.slu = [.shedEnd] ∧ s.notices.au = [.cleared] ∧ s.slu.observed = o ∧ s.pins.shd = l ∧ s.slu.filter = f) ∧
      2 * usTicks ≤ 8 := by decide

theorem witness_ClaimRisesOnlyByAGrant :
    (deciding 2000 []).own.committed = 500 ∧ (after .holdWindowExpiry (deciding 2000 [])).map (·.own.committed) = some 800 := by
  decide +kernel

theorem witness_ClaimSound_deciding : ClaimSound (deciding 2000 []) where
  inRange := by intro c h; cases h; decide +kernel
  configured := by intro; rfl
  noClaim := by intro h; exact absurd rfl h
  between := by intro; decide +kernel
  target := by decide +kernel
  minStep := by decide +kernel
  openAttach := by intro; right; rfl
  openIntent := by intro; exact ⟨_, rfl, by decide +kernel, by decide +kernel, by decide +kernel⟩
  joinIntent := by intro h; cases h

theorem witness_NeverGrantedInDoubt :
    (deciding 2000 []).own.resolution = none ∧
      (after .holdWindowExpiry (deciding 2000 [])).bind (·.own.resolution) = some ⟨7, .granted, some .positive, 300, 800⟩ := by
  decide +kernel

theorem witness_TransmitNotices :
    (∀ n ∈ [LtxNotice.sent .intent, .dropped .intent, .recalled],
      (noticed (intentIn .opening) n).notices.ltx = [n] ∧ (noticed (intentIn .opening) n).attached = true ∧
        (noticed (intentIn .opening) n).own.intentState = .opening ∧ (noticed (intentIn .opening) n).own.doubtMark = false) ∧
      (let s := { intentIn .settling with own := { (intentIn .settling).own with resolution := some ⟨7, .granted, some .zero, 1, 501⟩ } }
       s.attached = true ∧ s.own.intentState = .settling ∧ s.own.resolution.isSome = true) ∧
      (noticed (attachedAs .leaving) (.sent .announce)).notices.ltx = [.sent .announce] ∧
      (attachedAs .leaving).attached = false ∧ (attachedAs .member).own.attach ≠ .leaving ∧
      (attachedAs .member).own.intentState ≠ .opening ∧ (attachedAs .member).own.intentState ≠ .settling := by decide

theorem witness_LeaveCompletion :
    ∀ n ∈ [LtxNotice.sent .leave, .dropped .leave],
      (noticed (attachedAs .leaving) n).notices.ltx = [n] ∧ (noticed (attachedAs .leaving) n).own.attach = .leaving := by decide

theorem witness_AttachNotices :
    (∀ n ∈ [LtxNotice.isolated, .isolationEnd, .rejoin],
      (noticed (attachedAs .listening) n).notices.ltx = [n] ∧ (attachedAs .listening).attached = true ∧
        (attachedAs .listening).own.attach ≠ .member ∧ (attachedAs .member).attached = true ∧
        (attachedAs .member).own.attach = .member ∧ conf.attached = false) ∧
      (noticed conf .checkPassed).notices.ltx = [.checkPassed] ∧ conf.own.attach = .detached := by decide

/-! ### Witnesses: profile, shed line, monitor, alarms -/

theorem witness_ProfileWires :
    State.reset.rst.held = true ∧ (conf.rst.held = false ∧ (7 : Nat) = Bool.toNat true + 2 * Bool.toNat true + 4 * Bool.toNat true ∧
        (7 : Nat) ≠ conf.pins.psel0.toNat + 2 * conf.pins.psel1.toNat + 4 * conf.pins.psel2.toNat) ∧
      (let s := { conf with pfu := { conf.pfu with settle := some 4000 } }
       s.pfu.settle = some 4000 ∧ 1000 * usTicks ≤ 4000) := by decide

/-- A member with a claim of 1200 beside a peer with 600, and a profile change event to a budget. -/
def shedding (i : IntentState) (budget : Nat) : State :=
  { memberAt 1200 1200 with
    own := { (intentIn i).own with committed := 1200, target := 1200, hold := if i = .window then some 5 else none }
    view := { conf.view with peers := [peer 9 600] }
    notices := { conf.notices with pfu := [{ index := 1, budget := budget }] } }

theorem witness_ProfileChangeTaken :
    (conf.attached = false) ∧
      (∀ i ∈ [IntentState.opening, .settling, .window], ∀ b ∈ [1200, 1799],
        (shedding i b).notices.pfu = [{ index := 1, budget := b }] ∧ (shedding i b).attached = true ∧
          (shedding i b).own.attach = .member ∧ b < (shedding i b).viewTotal ∧
          (shedding i b).shedClaim b < (shedding i b).own.committed) ∧
      (shedding .settling 1800).viewTotal ≤ 1800 ∧
      (let s := { memberAt 100 100 with view := { conf.view with peers := [peer 9 600] } }
       s.own.attach = .member ∧ 50 < s.viewTotal ∧ s.own.committed ≤ s.shedClaim 50 ∧ 50 < s.floorSum) := by decide +kernel

theorem witness_ProportionalShed :
    (memberAt 1200 1200).own.attach = .member ∧ (memberAt 1200 1200).viewTotal = 1200 ∧
      (memberAt 1200 1200).floor < (memberAt 1200 1200).own.committed := by decide +kernel

theorem witness_ShedLine :
    State.reset.rst.held = true ∧ (conf.rst.held = false ∧ conf.pins.shd ≠ .dominant) ∧
      (let s := { conf with pins := { conf.pins with shd := .dominant }, slu := { conf.slu with filter := some 8 } }
       s.slu.filter = some 8 ∧ 2 * usTicks ≤ 8 ∧ s.pins.shd = .dominant ∧ s.slu.observed = .released) ∧
      (let s := { conf with slu := { conf.slu with filter := some 8, observed := .asserted } }
       s.slu.filter = some 8 ∧ s.pins.shd = .recessive ∧ s.slu.observed = .asserted ∧ s.configured = true) ∧
      (∀ o ∈ [ShdObserved.asserted, .released], ∀ l ∈ [Level.dominant, .recessive],
        let s := { conf with pins := { conf.pins with shd := l }, slu := { conf.slu with filter := some 8, observed := o } }
        s.rst.held = false ∧ s.pins.shd = l ∧ s.slu.observed = o ∧ (∃ n, s.slu.filter = some n ∧ 2 * usTicks ≤ n)) ∧
      up.configured = false ∧
      State.slu { conf with slu := { conf.slu with recovery := some 0 } } = { conf.slu with recovery := some 0 } := by decide

theorem witness_MonitorEvents :
    State.reset.rst.held = true ∧ (up.rst.held = false ∧ up.lport.config = none) ∧
      (∀ n ∈ [0, 1, 2, 3],
        let s := { conf with lport := { conf.lport with config := some { record with blanking := n } } }
        s.rst.held = false ∧ s.lport.config = some { record with blanking := n }) ∧
      (let s := { memberAt 5 5 with cmon := { conf.cmon with trip := .hold, hold := some 0, holdEdge := true } }
       s.cmon.trip = .hold ∧ s.cmon.holdEdge = true ∧ s.cmon.hold = some 0) ∧
      (let s := { memberAt 5 5 with cmon := { conf.cmon with blanking := some 0, clean := some 0, follow := some 0 } }
       s.cmon.blanking = some 0 ∧ s.cmon.clean = some 0 ∧ s.cmon.follow = some 0) := by decide

/-- A member drawing 521 units against a threshold of 520, qualified, with so many trips counted. -/
def tripping (mode trips : Nat) : State :=
  { memberAt 500 800 with
    lport := { conf.lport with config := some { record with tripMode := mode } }
    oc := { effRef := 500, gate := true }, pins := { conf.pins with sense := 521 }
    cmon := { conf.cmon with consecutive := trips, qualify := 1 } }

theorem witness_TripTaken :
    (∀ m ∈ [0, 1, 2, 3, 4], ∀ n ∈ [1, 2],
      (tripping m n).lport.config = some { record with tripMode := m } ∧ (tripping m n).own.attach = .member ∧
        (tripping m n).cmon.trip ≠ .latched ∧ (tripping m n).cmon.blanking = none ∧
        (tripping m n).threshold < (tripping m n).pins.sense ∧ (tripping m n).cmon.armed = true ∧
        (tripping m n).qualifyTime ≤ (tripping m n).cmon.qualify) ∧
      min 255 ((tripping 4 1).cmon.consecutive + 1) < record.retryLimit ∧
      record.retryLimit ≤ min 255 ((tripping 4 2).cmon.consecutive + 1) ∧
      (let s := { tripping 4 1 with cmon := { (tripping 4 1).cmon with blanking := some 2, reached := true } }
       s.own.attach = .member ∧ s.cmon.trip ≠ .latched ∧ s.cmon.reached = true) := by decide +kernel

theorem witness_AlarmFires :
    holdsKind conf.au.flags .trip = false ∧ holdsKind conf.au.forceMask .duplicateId = true ∧
      holdsKind conf.au.forceMask .trip = false ∧ holdsKind 0x0001 .trip = true := by decide

theorem witness_AlarmsAreSticky :
    (let s := inTransaction { conf with au := { conf.au with flags := 0x0001 } }
     holdsKind s.au.flags .trip = true ∧
       (after (.clearAlarms [0x01, 0x00]) s).map (fun t => holdsKind t.au.flags .trip) = some false) := by decide +kernel

/-! ### Witnesses: the local port -/

theorem witness_PortTransactions :
    (conf.rst.held = false ∧ conf.rst.blind = none ∧ conf.lport.transaction = none) ∧ State.reset.rst.held = true ∧
      State.rst { inTransaction conf with rst := { held := false, blind := some 7 } } = { held := false, blind := some 7 } ∧
      (inTransaction conf).transactionEnds = true ∧ (0x05 : Byte) ∉ requestCodes ∧ (inTransaction conf).lport.transaction = some [] := by
  decide

theorem witness_PortTests :
    (inTransaction conf).transactionEnds = true ∧
      ((portParams (zeros 1)).length < 2 ∧ (portParams []).length < 1 ∧ (portParams (zeros 51)).length < 52 ∧
        (portParams (zeros 3)).length < 4) ∧
      (52 ≤ (portParams (zeros 52)).length ∧ (memberAt 5 5).own.attach ≠ .detached ∧ conf.own.attach = .detached ∧
        conf.ltx.check.run = none ∧ (checking .single .sending .host).ltx.check.run ≠ none ∧
        (parseConfig (portParams (zeros 52))).inRange = false) ∧
      (up.lport.config = none ∧ 1 ≤ (portParams [3]).length ∧ 3 ≤ byteAt (portParams [3]) 0 ∧ conf.lport.config ≠ none) ∧
      ((attachedAs .leaving).own.attach = .leaving ∧ 4 ≤ (portParams (zeros 4)).length) ∧
      (conf.ceiling < wordAt (portParams [0xB1, 0x04, 1, 0]) 0 ∧ wordAt (portParams (zeros 4)) 2 = 0 ∧
        4095 < wordAt (portParams [0, 0, 0, 0x10]) 2) ∧
      conf.cmon.trip ≠ .latched ∧ 2048 ≤ wordAt (portParams [0, 8]) 0 ∧ 2 ≤ byteAt (portParams [2]) 0 ∧
      conf.snap.own = none ∧ 3 ≤ byteAt (portParams [3, 0]) 0 ∧ conf.snap.peers.length ≤ byteAt (portParams [1, 0]) 1 ∧
      conf.snap.intents.length ≤ byteAt (portParams [2, 0]) 1 := by decide +kernel

/-- A station that has taken a snapshot with one peer and one entry. -/
def snapped : State :=
  let s := { conf with view := { conf.view with peers := [peer 9 600], intents := [peerEntry 9 1 5 .intent] } }
  inTransaction s.snapshotTaken

theorem witness_PortReads :
    snapped.transactionEnds = true ∧ snapped.snap.own.isSome = true ∧
      (byteAt (portParams [0, 0]) 0 = 0 ∧ byteAt (portParams [0, 0]) 1 = 0 ∧ byteAt (portParams [0, 1]) 1 = 1) ∧
      (byteAt (portParams [1, 0]) 0 = 1 ∧ snapped.snap.peers[byteAt (portParams [1, 0]) 1]? = some (peer 9 600)) ∧
      (byteAt (portParams [2, 0]) 0 = 2 ∧ snapped.snap.intents[byteAt (portParams [2, 0]) 1]? = some (peerEntry 9 1 5 .intent)) ∧
      2 ≤ (portParams [0, 0]).length ∧ 1 ≤ (portParams [1]).length := by decide +kernel

/-- The 52 parameter bytes of the record of station 5. -/
def recordBytes : List Byte :=
  [5, 3, 0, 2] ++ u16 100 ++ u16 1200 ++ (List.replicate 8 2000).flatMap u16 ++ [20, 1, 1, 1, 4, 3] ++ u16 0x07FF ++ u16 0x0010 ++
    u16 0x0004 ++ [1, 2, 3, 4, 5, 6, 7, 8].flatMap u16

theorem witness_ConfigureStores :
    (inTransaction up).transactionEnds = true ∧ 52 ≤ (portParams recordBytes).length ∧ up.own.attach = .detached ∧
      up.ltx.check.run = none ∧ record.inRange = true ∧ parseConfig (portParams recordBytes) = record := by decide +kernel

theorem witness_LineCheckRequests :
    ((inTransaction conf).transactionEnds = true ∧ conf.own.attach = .detached ∧ conf.ltx.check.run = none ∧
        conf.lport.config ≠ none ∧ 1 ≤ (portParams [0]).length ∧ byteAt (portParams [1]) 0 = 1 ∧ byteAt (portParams [2]) 0 = 2) ∧
      (∀ p ∈ [CheckPhase.sending, .waiting, .stopping],
        (inTransaction (checking .continuous p .host)).transactionEnds = true ∧
          (checking .continuous p .host).ltx.check.run = some { mode := .continuous, phase := p } ∧
          (checking .continuous p .host).ltx.check.owner = some .host) ∧
      (checking .continuous .sending .host).ltx.attempt = none ∧
      (sending (checking .continuous .sending .host) .check 0 0).ltx.attempt.isSome = true := by decide

theorem witness_LeaveAndSetTarget :
    (inTransaction (attachedAs .listening)).transactionEnds = true ∧
      (conf.lport.config ≠ none ∧ conf.own.attach ≠ .leaving ∧ 4 ≤ (portParams [0xB0, 0x04, 0xFF, 0x0F]).length ∧
        wordAt (portParams [0xB0, 0x04, 0xFF, 0x0F]) 0 ≤ conf.ceiling ∧ 1 ≤ wordAt (portParams [0xB0, 0x04, 0xFF, 0x0F]) 2 ∧
        wordAt (portParams [0xB0, 0x04, 0xFF, 0x0F]) 2 ≤ 4095) ∧
      (wordAt (portParams [0xF4, 0x01, 1, 0]) 0 = (memberAt 500 800).own.committed ∧
        max (wordAt (portParams [0xF3, 0x01, 1, 0]) 0) (memberAt 500 800).floor < (memberAt 500 800).own.committed ∧
        wordAt (portParams [0, 0, 1, 0]) 0 < (memberAt 100 800).own.committed ∧ (memberAt 100 800).floor = (memberAt 100 800).own.committed ∧
        (memberAt 500 800).own.committed < wordAt (portParams [0xF5, 0x01, 1, 0]) 0) := by decide +kernel

theorem witness_HostActions :
    (inTransaction conf).transactionEnds = true ∧ conf.lport.config ≠ none ∧
      State.cmon { conf with cmon := { conf.cmon with trip := .latched } } = { conf.cmon with trip := .latched } ∧
      2 ≤ (portParams [0xFF, 0x07]).length ∧ wordAt (portParams [0xFF, 0x07]) 0 < 2048 ∧
      (∀ a ∈ [AuNotice.forceAlarm .trip, .cleared], State.notices { inTransaction conf with notices :=
        { conf.notices with au := [a] } } = { conf.notices with au := [a] }) := by decide +kernel

/-- A member at the port with TRIP and LINE_FAULT set, whose force-alarm notices wait behind a cleared notice. -/
def forcedAtPort : State :=
  inTransaction { attachedAs .member with
    au := { conf.au with flags := 0x0201 }
    notices := { conf.notices with au := [.cleared, .forceAlarm .trip, .forceAlarm .lineFault] } }

/-- R169, R170: a request that names no kind, or no set one, changes nothing but the response; one that clears TRIP finds its notice
taken, and what was given before it; the other one still waits. -/
theorem test_notices_before_clear_alarms :
    [[0x00, 0x00], [0x02, 0x00]].map (fun ps => (after (.clearAlarms ps) forcedAtPort).map (fun t => (t.au.flags, t.notices, t.own))) =
        List.replicate 2 (some (forcedAtPort.au.flags, forcedAtPort.notices, forcedAtPort.own)) ∧
      (after (.clearAlarms [0x01, 0x00]) forcedAtPort).map (fun t => (t.au.flags, t.notices.au)) =
        some (0x0200, [.forceAlarm .lineFault, .cleared]) := by decide +kernel

/-- R183: the commands that received bytes bring; further bytes after the parameters are ignored (R174). -/
theorem test_commands_received :
    [[], [0x00], [0x17, 0x0A, 0x00], [0x19, 0x01], [0x1A], [0x05]].map commandReceived =
      [.transactionWithoutRequest, .nop, .clearAlarms [0x0A, 0x00], .lineCheck [0x01], .stopCheck, .unknownRequest 0x05] := by
  decide

/-- R173: most significant bit first, and bits that complete no byte are dropped; the response slot of a station after reset is
0x04, 0x00, and MISO reads 0 past its end. -/
theorem test_port_bits :
    commandOfBits [false, false, false, true, false, false, true, false, true, true] = .leave ∧
      commandOfBits [true, true, true, true, true, true, true] = .transactionWithoutRequest ∧
      (after .transactionStart up).map (fun s => [0, 4, 5, 6, 7, 8, 16, 511].map s.misoBit) =
        some ([false, false, true, false, false, false, false, false].map some) := by decide +kernel

/-- R157, row 2: a trip due when a rising edge ends its hold is still made, and holds again. -/
theorem test_trip_and_coincident_edge :
    (let s := { tripping 4 0 with cmon := { (tripping 4 0).cmon with trip := .hold, hold := some 7, holdEdge := true } }
     ((after (.pwmeEdge true) s).bind (after .trip)).map (fun t => (t.cmon.trip, t.cmon.consecutive, t.lport.counters.trips))) =
      some (.hold, 1, 1) := by decide +kernel

/-- R3, R5: at 1 µs bits the line is idle after 8 units; a level told 0 units ago, or 9, opens no frame, one of 1 or 8 units
does; and a second level takes idle back only after a glitch. -/
theorem test_idle_and_glitch :
    [7, 8].map (fun n => ((after .lineIdle (quietFor n { attachedAs .member with lrx := { conf.lrx with state := .hunt false } })).map
          (·.lrx.state))) = [some (.hunt false), some (.hunt true)] ∧
      [0, 1, 8, 9].map (fun n => (after .startDelimiter (startingFor n (attachedAs .member))).map (·.lrx.state)) =
        [some (.starting 0), some (.receiving []), some (.receiving []), some (.starting 9)] ∧
      [0, 1, 8, 9].map (fun n => (after .sdlDominant (startingFor n (attachedAs .member))).map (·.lrx.state)) =
        [some (.hunt false), some (.starting 1), some (.starting 8), some (.hunt false)] := by decide +kernel

/-- R24, R27: after a fault in the middle of a frame LINE_IDLE tells when SDL turned recessive, and the gap counts from there: 1
unit after the fault it makes 8 units of 8; untold, it comes by itself at 8. -/
theorem test_idle_after_a_fault :
    ((after .transmitFault (dominantFor 20 (sending (attachedAs .member) .announce 0 0))).map
        (fun s => (s.pins.sdl, s.ltx.edgeUntold, s.ltx.recessive))) = some (none, true, 0) ∧
      [1, 7, 9].map (fun n => (after .lineIdle (faulted n)).map (fun s => (s.lrx.state, s.ltx.recessive))) =
        [some (.hunt true, 8), some (.hunt true, 8), some (.hunt true, 9)] ∧
      [7, 8].map (fun n => (faulted n).lineIdleDue) = [false, true] := by decide +kernel

/-- R140: a level of exactly 2 µs is observed, one unit less is not. -/
theorem test_level_of_exactly_2us :
    [7, 8].map (fun n => (after (.shdLevelChange .recessive)
        { conf with pins := { conf.pins with shd := .dominant }, slu := { conf.slu with filter := some n } }).map
          (fun s => (s.slu.observed, s.slu.filter, s.notices.slu))) =
      [some (.released, none, []), some (.asserted, some 0, [.shedStart])] := by decide +kernel

/-- R5: a start whose second cell turns dominant is malformed: a FRAGMENT record, and LRX in DISCARD. -/
theorem test_second_cell_dominant :
    ((after .sdlDominant (startingFor 6 (attachedAs .member))).bind (after .malformedStart)).map
        (fun s => (s.lrx.state, s.rsq.records)) =
      some (.discard, [.frame { own := false, kind := none, sender := none, length := 0, content := .fragment }]) := by
  decide +kernel

/-- R24, example of section 4: a station whose gap is reached a quarter of a bit time (1 unit) after another's SOD still begins,
one unit later no more. -/
theorem test_gaps_within_a_quarter_bit :
    [1, 2].map (fun t => ((after .sdlDominant (waiting 95)).map (fun s =>
        State.attemptDue { s with pins := { s.pins with sdl := some t } }))) = [some (some .announce), some none] := by
  decide +kernel

/-- R35: a run begun on an idle line: LRX sees idle before the SOD of the station's own attempt. -/
theorem test_run_on_an_idle_line :
    ((((after .join (inTransaction (quietFor 96 conf))).bind (after .attemptStart)).bind (after .sdlDominant)).map
      (·.lrx.state)) = some (.starting 0) := by decide +kernel

/-! ### Witnesses: the invariants

Each invariant holds in `up`, whose step on the empty queue is one unit of time. -/

theorem witness_step : step up = .next up.tick := rfl

theorem witness_OutputsAlwaysAgree : OutputsAgree up where
  reference := by decide
  gate := by decide
  alert := by decide
  drive := by decide
  noGrace := by decide
  notEvaluated := by decide

theorem witness_QueueSound : QueueSound up.rsq where
  atMostEight := by decide
  pendingOnlyWhenFull := by decide
  pendingRange := by decide
  lostRange := by simp [up, State.reset, State.inFullReset, Rsq.atReset]
  lossApart := by simp [up, State.reset, State.inFullReset, Rsq.atReset]

theorem witness_CountsSound : CountsSound up.ltx.pend where
  lost := by intro k e h; cases k <;> cases h
  fault := by intro k e h; cases k <;> cases h

theorem witness_WidthsKept : WidthsKept up where
  good := by decide
  error := by decide
  lost := by decide
  mismatch := by decide
  lostArb := by decide
  txFault := by decide
  dropped := by decide
  trips := by decide
  budgets := by intro c h; cases h
  digest := by intro d h; cases h
  lineCount := by intro c h; cases h
  records := by intro r h; cases h
  pendingLoss := by decide
  failCounter := by decide
  captureSlots := by refine ⟨by decide, ?_⟩; intro w h; simp [up, State.reset, State.inFullReset, Ltx.atReset, Capture.empty] at h
  captureIndex := by intro k h; cases h
  own := ⟨by decide, by decide, by decide, by decide, (by intro f h; cases h), (by intro r h; cases h), by decide⟩
  peers := by intro p h; cases h
  intents := by intro e h; cases h
  reference := by intro x h; cases h
  settlement := by intro p h; cases h
  generation := by decide
  snapOwn := by intro o h; cases h
  snapPeers := by intro p h; cases h
  snapIntents := by intro e h; cases h
  snapSettlement := by intro p h; cases h
  table := by intro t h; cases h
  budget := by decide
  profile := by decide
  age := by decide +kernel
  effRef := by decide
  grace := by decide
  consecutive := by decide
  flags := by decide

theorem witness_ClaimSound_up : ClaimSound up where
  inRange := by intro c h; cases h
  configured := by intro h; rcases h with h | h | h <;> simp [up, State.reset, State.inFullReset, OwnContext.atReset, Ltx.atReset, LineCheck.atReset, Notices.none] at h
  noClaim := by intro; rfl
  between := by intro h; cases h
  target := by decide
  minStep := by decide
  openAttach := by intro h; exact absurd rfl h
  openIntent := by intro h; rcases h with h | h <;> cases h
  joinIntent := by intro h; cases h

theorem witness_LinkStaysSound : LinkSound up where
  bytes := by intro bs h; cases h
  runDetached := by decide
  checkOnly := by decide
  disabled := by decide
  queueEmpty := by decide
  pendingDetached := by decide
  pendingLeaving := by decide
  pendingCheck := by decide
  attemptDetached := fun _ => ⟨by decide, by intro a h; cases h⟩
  waitingQuiet := by intro r h; cases h
  repeatTimer := by decide
  joinRun := by decide
  passHeld := by decide
  passOnce := by decide

theorem witness_QueueCountsAndWidthsKept :
    step up = .next up.tick ∧ QueueSound up.rsq ∧ CountsSound up.ltx.pend ∧ ClaimSound up ∧ LinkSound up ∧ WidthsKept up :=
  ⟨witness_step, witness_QueueSound, witness_CountsSound, witness_ClaimSound_up, witness_LinkStaysSound, witness_WidthsKept⟩

theorem witness_TimersStayInAgreement : TimersAgree up where
  current := by decide
  hold := by decide
  retry := by decide
  listen := by decide
  announce := by decide
  isolation := by decide
  settling := by decide
  idle := by decide
  openMarks := by decide
  confirmed := by decide
  tripHold := by decide
  isolated := by decide

theorem witness_ViewStaysSound : ViewSound up where
  senders := by intro r h; cases h
  ascending := by decide
  peerIds := by decide
  lostUnrefreshed := by decide
  oneEntry := by decide
  peerEntries := by decide
  ownEntries := by decide
  ownEntry := by decide
  detached := by decide
  reference := by decide
  idle := by decide

end Sys2Proof.Tests
end

section
/-! ## What the commands of the other units do to the link

`LinkSound`, `QueueSound` and `CountsSound` speak of LRX, the Receive Status Queue, the pending set, the attempt in flight, the
line check, the attach state and the notices CHECK PASSED. Of all that the Claim Engine changes only the pending set, by requests
and recalls: that is `RequestsOnly`. -/

namespace Sys2Proof.Machine

namespace State

theorem attached_eq_true_iff (s : State) : s.attached = true ↔ s.own.attach ≠ .detached ∧ s.own.attach ≠ .leaving := by
  unfold attached; split <;> simp_all

/-- Which requests other than CHECK are taken depends on the attach state alone (R20). -/
theorem requestTaken_iff (s : State) (k : FrameKind) (hk : k ≠ .check) :
    s.requestTaken k = true ↔ s.own.attach ≠ .detached ∧ (s.own.attach = .leaving → k = .leave) := by
  unfold requestTaken
  split <;> simp_all

end State

/-- From `s` to `t` the link has seen nothing but requests and recalls of CE: a kind in the set was there before with the same
counts, or has been added with both counts 0 by a request that LTX takes. The attach state may have changed among the attached
ones, and the repeat timer may have run. -/
structure RequestsOnly (s t : State) : Prop where
  lrx : t.lrx = s.lrx
  rsq : t.rsq = s.rsq
  run : t.ltx.check.run = s.ltx.check.run
  owner : t.ltx.check.owner = s.ltx.check.owner
  failCounter : t.ltx.check.failCounter = s.ltx.check.failCounter
  capture : t.ltx.capture = s.ltx.capture
  repeatTimer : t.ltx.check.repeatTimer.isSome = s.ltx.check.repeatTimer.isSome
  attempt : t.ltx.attempt.map (·.kind) = s.ltx.attempt.map (·.kind)
  attach : t.own.attach = s.own.attach ∨ s.attached = true ∧ t.attached = true
  passes : t.notices.ltx.count .checkPassed = s.notices.ltx.count .checkPassed
  pend : ∀ k e', t.ltx.pend.get k = some e' →
    (∃ e, s.ltx.pend.get k = some e ∧ e'.lost = e.lost ∧ e'.fault = e.fault) ∨
      (e'.lost = 0 ∧ e'.fault = 0 ∧ k ≠ .check ∧ s.requestTaken k = true)

namespace RequestsOnly

/-- A step that leaves the link's part of the state alone. -/
theorem of_eq {s t : State} (lrx : t.lrx = s.lrx := by simp) (rsq : t.rsq = s.rsq := by simp)
    (check : t.ltx.check = s.ltx.check := by simp) (attempt : t.ltx.attempt = s.ltx.attempt := by simp)
    (pend : t.ltx.pend = s.ltx.pend := by simp) (attach : t.own.attach = s.own.attach := by simp)
    (notices : t.notices.ltx = s.notices.ltx := by simp) (capture : t.ltx.capture = s.ltx.capture := by simp) :
    RequestsOnly s t where
  lrx := lrx
  rsq := rsq
  run := by rw [check]
  owner := by rw [check]
  failCounter := by rw [check]
  capture := capture
  repeatTimer := by rw [check]
  attempt := by rw [attempt]
  attach := .inl attach
  passes := by rw [notices]
  pend := fun k e' h => .inl ⟨e', by rw [← pend]; exact h, rfl, rfl⟩

theorem refl (s : State) : RequestsOnly s s := of_eq

theorem detached_iff {s t : State} (h : RequestsOnly s t) : t.own.attach = .detached ↔ s.own.attach = .detached := by
  rcases h.attach with e | ⟨hs, ht⟩
  · rw [e]
  · simp [((State.attached_eq_true_iff _).1 hs).1, ((State.attached_eq_true_iff _).1 ht).1]

theorem leaving_iff {s t : State} (h : RequestsOnly s t) : t.own.attach = .leaving ↔ s.own.attach = .leaving := by
  rcases h.attach with e | ⟨hs, ht⟩
  · rw [e]
  · simp [((State.attached_eq_true_iff _).1 hs).2, ((State.attached_eq_true_iff _).1 ht).2]

theorem attached_eq {s t : State} (h : RequestsOnly s t) : t.attached = s.attached := by
  rw [Bool.eq_iff_iff, State.attached_eq_true_iff, State.attached_eq_true_iff, Ne, Ne, h.detached_iff, h.leaving_iff]

theorem requestTaken_iff {s t : State} (h : RequestsOnly s t) (k : FrameKind) (hk : k ≠ .check) :
    t.requestTaken k = true ↔ s.requestTaken k = true := by
  rw [State.requestTaken_iff _ _ hk, State.requestTaken_iff _ _ hk, Ne, h.detached_iff, h.leaving_iff]

theorem trans {s t u : State} (h : RequestsOnly s t) (g : RequestsOnly t u) : RequestsOnly s u where
  lrx := g.lrx.trans h.lrx
  rsq := g.rsq.trans h.rsq
  run := g.run.trans h.run
  owner := g.owner.trans h.owner
  failCounter := g.failCounter.trans h.failCounter
  capture := g.capture.trans h.capture
  repeatTimer := g.repeatTimer.trans h.repeatTimer
  attempt := g.attempt.trans h.attempt
  attach := by
    rcases g.attach with e | ⟨ht, hu⟩
    · rcases h.attach with e' | ⟨hs, ht⟩
      · exact .inl (e.trans e')
      · exact .inr ⟨hs, by simpa [State.attached, e] using ht⟩
    · exact .inr ⟨h.attached_eq ▸ ht, hu⟩
  passes := g.passes.trans h.passes
  pend := fun k e'' hk => by
    rcases g.pend k e'' hk with ⟨e', he', hl, hf⟩ | ⟨hl, hf, hc, ht⟩
    · rcases h.pend k e' he' with ⟨e, he, hl', hf'⟩ | ⟨hl', hf', hrest⟩
      · exact .inl ⟨e, he, hl.trans hl', hf.trans hf'⟩
      · exact .inr ⟨hl.trans hl', hf.trans hf', hrest⟩
    · exact .inr ⟨hl, hf, hc, (h.requestTaken_iff k hc).1 ht⟩

/-! ### The shared operations -/

theorem request (s : State) (k : FrameKind) (hk : k ≠ .check) : RequestsOnly s (s.request k) := by
  have e := s.request_ltx k
  refine { lrx := by simp, rsq := by simp, run := by rw [e], owner := by rw [e], failCounter := by rw [e],
           capture := by rw [e], repeatTimer := by rw [e], attempt := by rw [e]
           attach := .inl (by simp), passes := by simp, pend := fun j e' hj => ?_ }
  by_cases hjk : j = k
  · subst hjk
    unfold State.request at hj
    split at hj
    · rename_i taken
      split at hj
      · obtain rfl : PendingSet.fresh = e' := by simpa [State.setPend] using hj
        exact .inr ⟨rfl, rfl, hk, taken⟩
      · rename_i e he
        split at hj
        · obtain rfl : { e with renewal := true } = e' := by simpa [State.setPend] using hj
          exact .inl ⟨e, he, rfl, rfl⟩
        · exact .inl ⟨e', hj, rfl, rfl⟩
    · exact .inl ⟨e', hj, rfl, rfl⟩
  · exact .inl ⟨e', by rw [← s.request_pend_other k j hjk]; exact hj, rfl, rfl⟩

/-- A kind leaves the set, and nothing else of the link changes but the notices other than CHECK PASSED. -/
theorem of_removed {s t : State} (k : FrameKind) (pend : t.ltx.pend = s.ltx.pend.put k none)
    (attach : t.own.attach = s.own.attach ∨ s.attached = true ∧ t.attached = true)
    (passes : t.notices.ltx.count .checkPassed = s.notices.ltx.count .checkPassed)
    (lrx : t.lrx = s.lrx := by simp) (rsq : t.rsq = s.rsq := by simp) (check : t.ltx.check = s.ltx.check := by simp)
    (attempt : t.ltx.attempt = s.ltx.attempt := by simp) (capture : t.ltx.capture = s.ltx.capture := by simp) :
    RequestsOnly s t where
  lrx := lrx
  rsq := rsq
  run := by rw [check]
  owner := by rw [check]
  failCounter := by rw [check]
  capture := capture
  repeatTimer := by rw [check]
  attempt := by rw [attempt]
  attach := attach
  passes := passes
  pend := fun j e' hj => by
    rw [pend] at hj
    by_cases hjk : j = k
    · subst hjk; simp at hj
    · exact .inl ⟨e', by rwa [PendingSet.get_put_other _ _ _ _ hjk] at hj, rfl, rfl⟩

theorem recallIntent (s : State) : RequestsOnly s s.recallIntent := by
  unfold State.recallIntent
  split
  · exact of_eq
  · split
    · exact of_removed .intent rfl (.inl rfl) (by simp [State.giveLtx, State.setPend]) rfl rfl rfl rfl rfl
    · exact refl s

theorem requestIntent (s : State) : RequestsOnly s s.requestIntent := by
  refine trans ?_ (request _ .intent (by decide))
  exact { refl s with attempt := by simp [Function.comp_def], pend := fun k e' h => .inl ⟨e', h, rfl, rfl⟩ }

theorem setView (s : State) (v : View) : RequestsOnly s (s.setView v) := of_eq

theorem settle (s : State) : RequestsOnly s s.settle := of_eq

theorem fire (s : State) (k : AlarmKind) : RequestsOnly s (s.fire k) := of_eq

theorem openingTest (s : State) : RequestsOnly s s.openingTest := by
  unfold State.openingTest
  split
  · exact trans of_eq (requestIntent _)
  · exact refl s

theorem endOfCeEvent (s : State) : RequestsOnly s s.endOfCeEvent := (openingTest s).trans (settle _)

theorem resolve (s : State) (o : IntentOutcome) (granted : Nat) (m : Option MarginClass) :
    RequestsOnly s (s.resolve o granted m) := trans of_eq (request _ .settle (by decide))

theorem withdrawalCause (s : State) : RequestsOnly s s.withdrawalCause := by
  unfold State.withdrawalCause
  split
  · exact refl s
  · exact refl s
  · exact refl s
  · split
    · exact refl s
    · exact trans of_eq (recallIntent _)
  · exact resolve ..

theorem decrease (s : State) : RequestsOnly s s.decrease := by
  unfold State.decrease
  dsimp only
  split
  · exact trans of_eq (request _ .announce (by decide))
  · exact of_eq

theorem becomeMember (s : State) : RequestsOnly s s.becomeMember := by
  unfold State.becomeMember
  split
  · rename_i h
    exact { of_eq (s := s) (t := s) with attach := .inr ⟨by simp [State.attached, h], rfl⟩ }
  · exact refl s

theorem settleToTarget (s : State) : RequestsOnly s s.settleToTarget := by
  unfold State.settleToTarget
  split
  · exact decrease s
  · exact refl s

theorem decideIntent (s : State) : RequestsOnly s s.decideIntent := by
  unfold State.decideIntent
  split
  · exact resolve ..
  · split
    · exact resolve ..
    · split
      · exact resolve ..
      · exact ((resolve s ..).trans (becomeMember _)).trans (settleToTarget _)

theorem openingDoubt (s : State) : RequestsOnly s s.openingDoubt := by
  unfold State.openingDoubt
  split
  · split
    · exact resolve ..
    · exact of_eq
  · exact refl s

theorem proportionalShed (s : State) (b : Nat) : RequestsOnly s (s.proportionalShed b) := by
  unfold State.proportionalShed
  split
  · dsimp only
    split
    · split
      · exact (trans of_eq (request _ .announce (by decide))).trans (withdrawalCause _)
      · exact trans of_eq (request _ .announce (by decide))
    · exact of_eq
  · exact refl s

theorem deficitCheck (s : State) (b : Nat) : RequestsOnly s (s.deficitCheck b) := by
  unfold State.deficitCheck
  split
  · exact fire s .budgetDeficit
  · exact refl s

theorem withdrawWindow (s : State) : RequestsOnly s s.withdrawWindow := by
  unfold State.withdrawWindow
  split
  · exact resolve ..
  · exact refl s

theorem applyProfileChange (s : State) (b : Nat) : RequestsOnly s (s.applyProfileChange b) :=
  ((trans (t := s.unrefresh) of_eq (withdrawWindow _)).trans (proportionalShed _ b)).trans (deficitCheck _ b)

theorem takeReadback (s : State) : RequestsOnly s s.takeReadback := by
  unfold State.takeReadback
  split
  · exact resolve ..
  · exact of_eq

theorem ownGood (s : State) (mm : Bool) (d : Decoded) : RequestsOnly s (s.ownGood mm d) := by
  have h : RequestsOnly s (s.unrefreshIf mm) := of_eq
  unfold State.ownGood
  dsimp only
  split
  · split
    · exact h.trans (takeReadback _)
    · exact h
  all_goals exact h

theorem ownRecord (s : State) (c : Content) : RequestsOnly s (s.ownRecord c) := by
  have doubt : RequestsOnly s s.unrefresh.openingDoubt := trans of_eq (openingDoubt _)
  unfold State.ownRecord
  split
  · exact refl s
  · split
    · exact ownGood ..
    · exact openingDoubt s
    all_goals exact doubt

theorem confirm (s : State) (mm : Bool) : RequestsOnly s (s.confirm mm) := by
  unfold State.confirm
  split <;> exact of_eq

theorem duplicateRecord (s : State) (mm : Bool) : RequestsOnly s (s.duplicateRecord mm) :=
  (trans (t := s.unrefreshIf mm) of_eq (fire _ .duplicateId)).trans (setView ..)

theorem errorRecord (s : State) (fragment : Bool) : RequestsOnly s (s.errorRecord fragment) := by
  unfold State.errorRecord
  split
  · exact refl s
  · exact of_eq

theorem takeRejoin (s : State) (h : s.attached = true) : RequestsOnly s s.takeRejoin :=
  of_removed .intent rfl (.inr ⟨h, rfl⟩) rfl rfl rfl rfl rfl rfl

theorem fallToFloor (s : State) : RequestsOnly s s.fallToFloor := by
  unfold State.fallToFloor
  split
  · exact trans of_eq (request _ .announce (by decide))
  · exact refl s

theorem takeIsolated (s : State) : RequestsOnly s s.takeIsolated := by
  unfold State.takeIsolated
  split
  · refine (withdrawalCause s).trans (trans (trans ?_ (fire _ .isolated)) (fallToFloor _))
    exact of_eq
  · exact refl s

theorem takeIsolationEnd (s : State) : RequestsOnly s s.takeIsolationEnd := by
  unfold State.takeIsolationEnd
  split <;> exact of_eq

theorem endOpening (s : State) : RequestsOnly s s.endOpening := by
  unfold State.endOpening
  exact of_eq

theorem endSettling (s : State) : RequestsOnly s s.endSettling := by
  unfold State.endSettling
  split <;> exact of_eq

theorem openingSent (s : State) : RequestsOnly s s.openingSent := by
  unfold State.openingSent
  split
  · exact resolve ..
  · exact of_eq

theorem takeRecalled (s : State) : RequestsOnly s s.takeRecalled := by
  unfold State.takeRecalled
  split
  · exact endOpening s
  · exact refl s

/-- SENT of a kind, but for the completion of LEAVE. -/
theorem takeSent (s : State) (k : FrameKind) (h : k ≠ .leave ∨ s.own.attach ≠ .leaving) : RequestsOnly s (s.takeSent k) := by
  unfold State.takeSent
  split
  · split
    · exact openingSent s
    · exact refl s
  · split
    · exact endSettling s
    · exact refl s
  · have : s.own.attach ≠ .leaving := by simpa using h
    rw [if_neg this]
    exact refl s
  all_goals exact refl s

/-- DROPPED of a kind, but for the completion of LEAVE. -/
theorem takeDropped (s : State) (k : FrameKind) (h : k ≠ .leave ∨ s.own.attach ≠ .leaving) :
    RequestsOnly s (s.takeDropped k) := by
  unfold State.takeDropped
  split
  · split
    · exact endOpening s
    · exact refl s
  · split
    · exact endSettling s
    · exact refl s
  · have : s.own.attach ≠ .leaving := by simpa using h
    rw [if_neg this]
    exact refl s
  all_goals exact refl s

theorem applyTarget (s : State) (target minStep : Nat) : RequestsOnly s (s.applyTarget target minStep) := by
  unfold State.applyTarget
  dsimp only
  split
  · split
    · exact (trans of_eq (withdrawalCause _)).trans (decrease _)
    · exact trans of_eq (withdrawalCause _)
  · exact of_eq

theorem auNoticesTaken (s : State) (cleared : Word16) : RequestsOnly s (s.auNoticesTaken cleared) := by
  refine s.auNoticesTaken_induction cleared (RequestsOnly s) (refl s) fun t h n => h.trans ?_
  have taken : RequestsOnly t t.takeAu := of_eq rfl rfl rfl rfl rfl rfl rfl rfl
  cases n with
  | forceAlarm k => exact (taken.trans (withdrawalCause _)).trans (endOfCeEvent _)
  | cleared => exact taken.trans (endOfCeEvent _)

end RequestsOnly

end Sys2Proof.Machine
end

section
/-! ## Everything a command can do to the link -/

namespace Sys2Proof.Machine

namespace RequestsOnly

/-- A step that does not touch the link. -/
theorem unchanged {s t : State} (lrx : t.lrx = s.lrx := by rfl) (rsq : t.rsq = s.rsq := by rfl) (ltx : t.ltx = s.ltx := by rfl)
    (attach : t.own.attach = s.own.attach := by rfl) (notices : t.notices.ltx = s.notices.ltx := by rfl) : RequestsOnly s t :=
  of_eq lrx rsq (by rw [ltx]) (by rw [ltx]) (by rw [ltx]) attach notices (by rw [ltx])

theorem settled {s t : State} (h : RequestsOnly s t) : RequestsOnly s t.settle := h.trans (.settle t)

theorem giveLtx (s : State) (n : LtxNotice) (h : n ≠ .checkPassed) : RequestsOnly s (s.giveLtx n) :=
  { refl s with passes := by simp [State.giveLtx, h] }

theorem takeSlu (s : State) : RequestsOnly s s.takeSlu := unchanged

theorem takeAu (s : State) : RequestsOnly s s.takeAu := unchanged

theorem takePfu (s : State) : RequestsOnly s s.takePfu := unchanged

theorem giveSlu (s : State) (n : SluNotice) : RequestsOnly s (s.giveSlu n) := unchanged

theorem sdlStarted (s : State) : RequestsOnly s s.sdlStarted := by
  unfold State.sdlStarted
  split <;> exact of_eq

theorem sdlTwoCellsRecessive (s : State) : RequestsOnly s s.sdlTwoCellsRecessive := of_eq rfl rfl rfl rfl rfl rfl rfl rfl

theorem sdlIdle (s : State) : RequestsOnly s s.sdlIdle := by
  unfold State.sdlIdle
  split
  · exact sdlTwoCellsRecessive s
  · exact refl s

theorem alignAnnounce (s : State) (x : Nat) : RequestsOnly s (s.alignAnnounce x) := by
  unfold State.alignAnnounce
  split <;> exact of_eq

theorem handOff (s : State) (c : Classified) (bs : List Byte) : RequestsOnly s (s.handOff c bs) := by
  unfold State.handOff
  split
  · split
    · exact refl s
    · exact alignAnnounce ..
  all_goals exact refl s

end RequestsOnly

/-- The single things that can happen to the link, each with its occasion. -/
inductive LinkMove : State → State → Prop
  | requests {s t : State} (h : RequestsOnly s t) : LinkMove s t
  | dropsHead {s : State} (h : s.own.attach ≠ .detached) : LinkMove s s.dropHead
  | takesNotice {s : State} (n : LtxNotice) (rest : List LtxNotice) (h : s.notices.ltx = n :: rest) (hn : n ≠ .checkPassed) :
      LinkMove s s.takeLtx
  | takesPass {s : State} (rest : List LtxNotice) (h : s.notices.ltx = .checkPassed :: rest) :
      LinkMove s (if s.own.attach = .detached then s.takeLtx.enterListening else s.takeLtx)
  | resets {s : State} : LinkMove s s.fullReset
  | receives {s : State} (x : LrxState) (hd : x = .disabled ↔ s.lrx.state = .disabled)
      (hb : ∀ bs, x = .receiving bs → x = s.lrx.state ∨ bs.length ≤ 24) : LinkMove s (s.setLrxState x)
  | counts {s : State} (c : Option Nat) (ho : s.lrx.checkOnly = false) (hd : s.lrx.state ≠ .disabled) :
      LinkMove s (s.setLrx { s.lrx with lineCount := c })
  | captures {s : State} (c : Capture) : LinkMove s (s.setLtx { s.ltx with capture := c })
  | handsRecord {s : State} (r : FrameRecord) (hd : s.lrx.state ≠ .disabled) : LinkMove s (s.handRecord r)
  | sends {s : State} (good : Bool) : LinkMove s (s.attemptSent good)
  | begins {s : State} (k : FrameKind) (h : s.attemptDue = some k) : LinkMove s (s.beginAttempt k)
  | loses {s : State} (a : Attempt) (h : s.ltx.attempt = some a) : LinkMove s (s.loseArbitration a.kind)
  | faults {s : State} (a : Attempt) (h : s.ltx.attempt = some a) : LinkMove s (s.meetFault a.kind)
  | repeats {s : State} (h : s.repeatDue = true) : LinkMove s s.nextCheck
  | startsRun {s : State} (m : CheckMode) (o : CheckOwner) (h : s.idleDetached = true) (hm : o = .join → m = .single) :
      LinkMove s (s.beginRun m o)
  | stopsRun {s : State} (h : s.mayStop = true) : LinkMove s s.stopRun
  | leaves {s : State} (h : s.attached = true) : LinkMove s s.takeLeaveRequest
  | completesLeave {s : State} (h : s.own.attach = .leaving) : LinkMove s s.completeLeave

/-- A run of such moves. -/
abbrev LinkMoves : State → State → Prop := Relation.ReflTransGen LinkMove

theorem LinkMoves.of_requests {s t : State} (h : RequestsOnly s t) : LinkMoves s t := .single (.requests h)

/-- Every next state that an outcome can be meets `P`. -/
def Leads (o : Out) (P : State → Prop) : Prop := ∀ t, o = .next t → P t

@[simp] theorem leads_next (s : State) (P : State → Prop) : Leads (.next s) P ↔ P s := by
  simp [Leads]

/-! ### The Link Receiver -/

theorem linkMoves_seesIdle (s : State) : LinkMoves s s.seesIdle := by
  cases h : s.lineIdleDue with
  | false => rw [s.seesIdle_of_not_due h]
  | true =>
    rw [s.seesIdle_of_due h]
    obtain ⟨-, -, hw⟩ := s.lineIdleDue_eq_true_iff.1 h
    refine .single (.receives _ ?_ (by simp))
    rcases hw with hw | hw | ⟨age, hw⟩ <;> simp [hw]

theorem linkMoves_frameStart (s t : State) (h : s.frameStart = some t) : LinkMoves s t ∧ t.lrx.state ≠ .disabled := by
  rcases (s.frameStart_eq_some_iff t).1 h with ⟨hs, rfl⟩ | ⟨age, hs, -, rfl⟩
  · exact ⟨(linkMoves_seesIdle s).tail (.requests (.sdlStarted _)), by simp [hs]⟩
  · refine ⟨.refl, fun hd => ?_⟩
    rcases t.seesIdle_cases with e | e
    · rw [e, hd] at hs; cases hs
    · rw [e] at hs; cases hs

theorem linkMoves_discardFrame (s : State) (bs : List Byte) (n : Nat) (c : Content) (h : s.lrx.state ≠ .disabled) :
    LinkMoves s (s.discardFrame bs n c) :=
  ((Relation.ReflTransGen.single (.receives .discard (by simp [h]) (by simp))).tail
    (.handsRecord _ (by simp))).tail (.requests (.settle _))

/-- In check-only mode the line count stays (R13). -/
theorem State.countFrame_fst_of_checkOnly (s : State) (c : Classified) (bs : List Byte) (h : s.lrx.checkOnly = true) :
    (s.countFrame c bs).1 = s.lrx.lineCount := by
  unfold countFrame
  split
  · simp [h]
  all_goals rfl

theorem linkMoves_frameEnds (s : State) (bs : List Byte) (h : s.lrx.state ≠ .disabled) : LinkMoves s (s.frameEnds bs) := by
  have hunts : LinkMoves s (s.setLrx { s.lrx with state := .hunt true, lineCount := (s.countFrame (classify bs) bs).1 }) := by
    have first : LinkMoves s (s.setLrxState (.hunt true)) := .single (.receives _ (by simp [h]) (by simp))
    cases ho : s.lrx.checkOnly with
    | true => rw [s.countFrame_fst_of_checkOnly _ _ ho]; exact first
    | false => exact first.tail (.counts (s := s.setLrxState (.hunt true)) _ ho (by simp))
  exact (((hunts.tail (.handsRecord _ (by simp))).tail (.requests (.handOff _ _ _))).tail (.sends _)).tail
    (.requests (.settle _))

theorem linkMoves_startDelimiter (s : State) : Leads (execStartDelimiter s) (LinkMoves s) := by
  unfold execStartDelimiter
  split
  · exact (leads_next ..).2 .refl
  · rename_i t h
    obtain ⟨hm, hd⟩ := linkMoves_frameStart s t h
    exact (leads_next ..).2 (hm.tail (.receives _ (by simp [hd]) (by simp)))

theorem linkMoves_malformedStart (s : State) : Leads (execMalformedStart s) (LinkMoves s) := by
  unfold execMalformedStart
  split
  · exact (leads_next ..).2 .refl
  · rename_i t h
    obtain ⟨hm, hd⟩ := linkMoves_frameStart s t h
    exact (leads_next ..).2 (hm.trans (linkMoves_discardFrame t _ _ _ hd))

theorem linkMoves_violation (s : State) : Leads (execViolation s) (LinkMoves s) := by
  unfold execViolation
  split
  · rename_i h
    exact (leads_next ..).2 (linkMoves_discardFrame s _ _ _ (by simp [h]))
  all_goals exact (leads_next ..).2 .refl

theorem linkMoves_tooLong (s : State) : Leads (execTooLong s) (LinkMoves s) := by
  unfold execTooLong
  split
  · rename_i h
    split
    · exact (leads_next ..).2 (linkMoves_discardFrame s _ _ _ (by simp [h]))
    · exact (leads_next ..).2 .refl
  all_goals exact (leads_next ..).2 .refl

theorem linkMoves_endDelimiter (s : State) : Leads (execEndDelimiter s) (LinkMoves s) := by
  have eod : LinkMoves s s.sdlTwoCellsRecessive := .of_requests (.sdlTwoCellsRecessive s)
  have outside : Leads (if s.ltx.attempt.isSome then .next (s.sdlTwoCellsRecessive.attemptSent false).settle else .next s)
      (LinkMoves s) := by
    split
    · exact (leads_next ..).2 ((eod.tail (.sends false)).tail (.requests (.settle _)))
    · exact (leads_next ..).2 .refl
  unfold execEndDelimiter
  split
  · rename_i h
    exact (leads_next ..).2 (eod.trans (linkMoves_frameEnds _ _ (by simp [h])))
  all_goals exact outside

theorem linkMoves_lineIdle (s : State) : Leads (execLineIdle s) (LinkMoves s) := by
  have idle : LinkMoves s s.sdlIdle := .of_requests (.sdlIdle s)
  unfold execLineIdle
  split
  · split
    case h_4 => exact (leads_next ..).2 idle
    case h_5 => exact (leads_next ..).2 .refl
    all_goals
      rename_i h
      exact (leads_next ..).2 (idle.tail (.receives _ (by simp [h]) (by simp)))
  · exact (leads_next ..).2 .refl

theorem linkMoves_wholeByte (b : Byte) (s : State) : Leads (execWholeByte b s) (LinkMoves s) := by
  unfold execWholeByte
  split
  · rename_i bs h
    split
    · rename_i hlen
      have kept : LinkMoves s (s.setLrxState (.receiving (bs ++ [b]))) :=
        .single (.receives _ (by simp [h]) (by simp; omega))
      dsimp only
      split
      · exact (leads_next ..).2 (kept.tail (.captures _))
      · exact (leads_next ..).2 kept
    · exact (leads_next ..).2 (linkMoves_discardFrame s _ _ _ (by simp [h]))
  all_goals exact (leads_next ..).2 .refl

theorem linkMoves_sdlDominant (s : State) : Leads (execSdlDominant s) (LinkMoves s) := by
  refine (leads_next ..).2 ((linkMoves_seesIdle s).trans ?_)
  generalize s.seesIdle = u
  refine Relation.ReflTransGen.tail (b := u.setLrxState u.lrxAtDominant) (.single (.receives _ ?_ ?_))
    (.requests (.of_eq rfl rfl rfl rfl rfl rfl rfl rfl))
  · rcases u.lrxAtDominant_cases with ⟨e, -⟩ | ⟨h, e⟩ | ⟨age, h, -, e⟩
    · rw [e]
    · simp [h, e]
    · simp [h, e]
  · intro bs hx
    rcases u.lrxAtDominant_cases with ⟨e, -⟩ | ⟨h, e⟩ | ⟨age, h, -, e⟩
    · exact .inl e
    · rw [e] at hx; cases hx
    · rw [e] at hx; cases hx

/-! ### The Link Transmitter -/

theorem linkMoves_attemptStart (s : State) : Leads (execAttemptStart s) (LinkMoves s) := by
  unfold execAttemptStart
  split
  · exact (leads_next ..).2 .refl
  · rename_i k h
    exact (leads_next ..).2 (.single (.begins k h))

theorem linkMoves_lostArbitration (s : State) : Leads (execLostArbitration s) (LinkMoves s) := by
  unfold execLostArbitration
  split
  · exact (leads_next ..).2 .refl
  · rename_i a h
    exact (leads_next ..).2 (.single (.loses a h))

theorem linkMoves_transmitFault (s : State) : Leads (execTransmitFault s) (LinkMoves s) := by
  unfold execTransmitFault
  split
  · exact (leads_next ..).2 .refl
  · rename_i a h
    exact (leads_next ..).2 (.tail (.single (.faults a h)) (.requests (.settle _)))

theorem linkMoves_announceTimerExpiry (s : State) : Leads (execAnnounceTimerExpiry s) (LinkMoves s) := by
  unfold execAnnounceTimerExpiry
  split
  · exact (leads_next ..).2 (.of_requests (.trans .of_eq (.request _ .announce (by decide))))
  · exact (leads_next ..).2 .refl

theorem linkMoves_isolationTimer3P (s : State) : Leads (execIsolationTimer3P s) (LinkMoves s) := by
  unfold execIsolationTimer3P
  split
  · exact (leads_next ..).2 (.of_requests (.trans .of_eq (.giveLtx _ .isolated (by decide))))
  · exact (leads_next ..).2 .refl

theorem linkMoves_isolationTimer40P (s : State) : Leads (execIsolationTimer40P s) (LinkMoves s) := by
  unfold execIsolationTimer40P
  split
  · exact (leads_next ..).2 (.of_requests (.trans .of_eq (.giveLtx _ .rejoin (by decide))))
  · exact (leads_next ..).2 .refl

theorem linkMoves_repeatTimerExpiry (s : State) : Leads (execRepeatTimerExpiry s) (LinkMoves s) := by
  unfold execRepeatTimerExpiry
  split
  · rename_i h
    exact (leads_next ..).2 (.single (.repeats h))
  · exact (leads_next ..).2 .refl

/-! ### The records -/

theorem State.attach_of_head (s : State) (h : s.head ≠ .nothing) : s.own.attach ≠ .detached := by
  intro hd
  exact h (if_pos hd)

/-- CE takes the head, and does with it what only requests and recalls tell LTX. -/
theorem linkMoves_record {s t : State} (h : s.head ≠ .nothing) (ht : RequestsOnly s.dropHead t) :
    LinkMoves s t.endOfCeEvent :=
  .tail (.single (.dropsHead (s.attach_of_head h))) (.requests (ht.trans (.endOfCeEvent _)))

theorem RequestsOnly.peerAnnounce (s : State) (x : Nat) (mm : Bool) (f : AnnounceFields) :
    RequestsOnly s (s.peerAnnounce x mm f) := by
  have digest (t : State) : RequestsOnly t (t.checkDigest f) := by
    unfold State.checkDigest
    split
    · exact refl t
    · exact fire t _
  have profile (t : State) : RequestsOnly t (t.checkProfile f) := by
    unfold State.checkProfile
    split
    · exact fire t _
    · exact refl t
  have updated : RequestsOnly s ((s.unrefreshIf mm).updatePeer x (s.applyAnnounce f)) := .of_eq
  exact (((updated.trans (digest _)).trans (profile _)).trans (.setView ..)).trans (.setView ..)

theorem linkMoves_takeAnnounce (s : State) : Leads (execTakeAnnounce s) (LinkMoves s) := by
  unfold execTakeAnnounce
  split
  · rename_i h
    exact (leads_next ..).2 (linkMoves_record (by simp [h]) ((RequestsOnly.peerAnnounce ..).trans (.confirm _ _)))
  all_goals exact (leads_next ..).2 .refl

theorem linkMoves_takeIntent (s : State) : Leads (execTakeIntent s) (LinkMoves s) := by
  unfold execTakeIntent
  split
  · rename_i h
    exact (leads_next ..).2 (linkMoves_record (by simp [h]) (.trans (t := s.dropHead.peerIntent _ _ _) .of_eq (.confirm _ _)))
  all_goals exact (leads_next ..).2 .refl

theorem linkMoves_takeSettle (s : State) : Leads (execTakeSettle s) (LinkMoves s) := by
  unfold execTakeSettle
  split
  · rename_i h
    exact (leads_next ..).2 (linkMoves_record (by simp [h]) (.trans (t := s.dropHead.peerSettle _ _ _) .of_eq (.confirm _ _)))
  all_goals exact (leads_next ..).2 .refl

theorem linkMoves_takeLeave (s : State) : Leads (execTakeLeave s) (LinkMoves s) := by
  unfold execTakeLeave
  split
  · rename_i h
    exact (leads_next ..).2 (linkMoves_record (by simp [h]) (.trans (t := s.dropHead.peerLeave _ _) .of_eq (.confirm _ _)))
  all_goals exact (leads_next ..).2 .refl

theorem linkMoves_takeOwnRecord (s : State) : Leads (execTakeOwnRecord s) (LinkMoves s) := by
  unfold execTakeOwnRecord
  split
  · rename_i h
    exact (leads_next ..).2 (linkMoves_record (by simp [h]) (.ownRecord _ _))
  all_goals exact (leads_next ..).2 .refl

theorem linkMoves_takeDuplicateRecord (s : State) : Leads (execTakeDuplicateRecord s) (LinkMoves s) := by
  unfold execTakeDuplicateRecord
  split
  · rename_i h
    exact (leads_next ..).2 (linkMoves_record (by simp [h]) (.duplicateRecord _ _))
  all_goals exact (leads_next ..).2 .refl

theorem linkMoves_takeErrorRecord (s : State) : Leads (execTakeErrorRecord s) (LinkMoves s) := by
  unfold execTakeErrorRecord
  split
  · rename_i h
    exact (leads_next ..).2 (linkMoves_record (by simp [h]) (.errorRecord _ _))
  all_goals exact (leads_next ..).2 .refl

theorem linkMoves_takeLossRecord (s : State) : Leads (execTakeLossRecord s) (LinkMoves s) := by
  unfold execTakeLossRecord
  split
  · rename_i h
    exact (leads_next ..).2 (linkMoves_record (by simp [h]) (.trans (t := s.dropHead.unrefresh) .of_eq (.openingDoubt _)))
  all_goals exact (leads_next ..).2 .refl

theorem linkMoves_takeCheckRecord (s : State) : Leads (execTakeCheckRecord s) (LinkMoves s) := by
  unfold execTakeCheckRecord
  split
  · rename_i h
    exact (leads_next ..).2 (linkMoves_record (by simp [h]) (.refl _))
  all_goals exact (leads_next ..).2 .refl

/-! ### The timers and notices of the Claim Engine -/

/-- An event of CE that tells LTX nothing but requests and recalls. -/
theorem linkMoves_ceEvent {s t : State} (h : RequestsOnly s t) : LinkMoves s t.endOfCeEvent :=
  LinkMoves.of_requests (h.trans (.endOfCeEvent _))

theorem leads_ceEvent_if {s t : State} {b : Bool} (h : b = true → RequestsOnly s t) :
    Leads (if b then .next t.endOfCeEvent else .next s) (LinkMoves s) := by
  split
  · rename_i hb
    exact (leads_next ..).2 (linkMoves_ceEvent (h hb))
  · exact (leads_next ..).2 .refl

theorem linkMoves_peerLost (id : Nat) (s : State) : Leads (execPeerLost id s) (LinkMoves s) := by
  unfold execPeerLost
  split
  · exact (leads_next ..).2 .refl
  · refine leads_ceEvent_if fun _ => ?_
    exact .trans (.trans (.setView ..) (.setView ..)) (.setView ..)

theorem linkMoves_peerForgotten (id : Nat) (s : State) : Leads (execPeerForgotten id s) (LinkMoves s) := by
  unfold execPeerForgotten
  split
  · exact (leads_next ..).2 .refl
  · exact leads_ceEvent_if fun _ => .setView ..

theorem linkMoves_duplicateTimerExpiry (s : State) : Leads (execDuplicateTimerExpiry s) (LinkMoves s) :=
  leads_ceEvent_if fun _ => .setView ..

theorem linkMoves_holdWindowExpiry (s : State) : Leads (execHoldWindowExpiry s) (LinkMoves s) :=
  leads_ceEvent_if fun _ => .decideIntent s

theorem linkMoves_retryTimerExpiry (s : State) : Leads (execRetryTimerExpiry s) (LinkMoves s) :=
  leads_ceEvent_if fun _ => .of_eq

theorem linkMoves_listenTimerExpiry (s : State) : Leads (execListenTimerExpiry s) (LinkMoves s) := by
  refine leads_ceEvent_if fun h => ?_
  have hl : s.own.attach = .listening := by
    simp only [State.listenDue, Bool.and_eq_true, beq_iff_eq] at h
    exact h.1
  exact { RequestsOnly.refl s with attach := .inr ⟨by simp [State.attached, hl], rfl⟩ }

/-- CE takes a notice of LTX other than CHECK PASSED. -/
theorem linkMoves_notice {s t : State} {n : LtxNotice} {rest : List LtxNotice} (h : s.notices.ltx = n :: rest)
    (hn : n ≠ .checkPassed) (ht : RequestsOnly s.takeLtx t) : LinkMoves s t.endOfCeEvent :=
  .tail (.single (.takesNotice n rest h hn)) (.requests (ht.trans (.endOfCeEvent _)))

theorem linkMoves_completion {s : State} {n : LtxNotice} {rest : List LtxNotice} (h : s.notices.ltx = n :: rest)
    (hn : n ≠ .checkPassed) (hl : s.own.attach = .leaving) : LinkMoves s s.takeLtx.completeLeave.endOfCeEvent :=
  .tail (.tail (.single (.takesNotice n rest h hn)) (.completesLeave hl)) (.requests (.endOfCeEvent _))

theorem linkMoves_sentNotice (s : State) : Leads (execSentNotice s) (LinkMoves s) := by
  unfold execSentNotice
  split
  · rename_i k _ h
    by_cases hk : k = .leave ∧ s.own.attach = .leaving
    · obtain ⟨rfl, hl⟩ := hk
      have : s.takeLtx.takeSent .leave = s.takeLtx.completeLeave := if_pos hl
      exact (leads_next ..).2 (this ▸ linkMoves_completion h (by simp) hl)
    · exact (leads_next ..).2 (linkMoves_notice h (by simp) (.takeSent _ k (not_and_or.1 hk)))
  · exact (leads_next ..).2 .refl

theorem linkMoves_droppedNotice (s : State) : Leads (execDroppedNotice s) (LinkMoves s) := by
  unfold execDroppedNotice
  split
  · rename_i k _ h
    by_cases hk : k = .leave ∧ s.own.attach = .leaving
    · obtain ⟨rfl, hl⟩ := hk
      have : s.takeLtx.takeDropped .leave = s.takeLtx.completeLeave := if_pos hl
      exact (leads_next ..).2 (this ▸ linkMoves_completion h (by simp) hl)
    · exact (leads_next ..).2 (linkMoves_notice h (by simp) (.takeDropped _ k (not_and_or.1 hk)))
  · exact (leads_next ..).2 .refl

theorem linkMoves_recalledNotice (s : State) : Leads (execRecalledNotice s) (LinkMoves s) := by
  unfold execRecalledNotice
  split
  · rename_i h
    exact (leads_next ..).2 (linkMoves_notice h (by simp) (.takeRecalled _))
  · exact (leads_next ..).2 .refl

theorem linkMoves_isolatedNotice (s : State) : Leads (execIsolatedNotice s) (LinkMoves s) := by
  unfold execIsolatedNotice
  split
  · rename_i h
    exact (leads_next ..).2 (linkMoves_notice h (by simp) (.takeIsolated _))
  · exact (leads_next ..).2 .refl

theorem linkMoves_isolationEndNotice (s : State) : Leads (execIsolationEndNotice s) (LinkMoves s) := by
  unfold execIsolationEndNotice
  split
  · rename_i h
    exact (leads_next ..).2 (linkMoves_notice h (by simp) (.takeIsolationEnd _))
  · exact (leads_next ..).2 .refl

theorem linkMoves_rejoinNotice (s : State) : Leads (execRejoinNotice s) (LinkMoves s) := by
  unfold execRejoinNotice
  split
  · rename_i h
    refine (leads_next ..).2 (linkMoves_notice h (by simp) ?_)
    split
    · rename_i ha
      exact .takeRejoin _ ha
    · exact .refl _
  · exact (leads_next ..).2 .refl

theorem linkMoves_checkPassed (s : State) : Leads (execCheckPassed s) (LinkMoves s) := by
  unfold execCheckPassed
  split
  · rename_i h
    exact (leads_next ..).2 (.tail (.single (.takesPass _ h)) (.requests (.endOfCeEvent _)))
  · exact (leads_next ..).2 .refl

theorem linkMoves_checkFailed (s : State) : Leads (execCheckFailed s) (LinkMoves s) := by
  unfold execCheckFailed
  split
  · rename_i h
    exact (leads_next ..).2 (linkMoves_notice h (by simp) (.refl _))
  · exact (leads_next ..).2 .refl

theorem linkMoves_shedStartNotice (s : State) : Leads (execShedStartNotice s) (LinkMoves s) := by
  unfold execShedStartNotice
  split
  · exact (leads_next ..).2 (linkMoves_ceEvent (.trans (.takeSlu s) (.withdrawalCause _)))
  · exact (leads_next ..).2 .refl

theorem linkMoves_shedEndNotice (s : State) : Leads (execShedEndNotice s) (LinkMoves s) := by
  unfold execShedEndNotice
  split
  · split
    · exact (leads_next ..).2 .refl
    · exact (leads_next ..).2 (linkMoves_ceEvent (.takeSlu s))
  · exact (leads_next ..).2 .refl

theorem linkMoves_forceAlarmNotice (s : State) : Leads (execForceAlarmNotice s) (LinkMoves s) := by
  unfold execForceAlarmNotice
  split
  · exact (leads_next ..).2 (linkMoves_ceEvent (.trans (.takeAu s) (.withdrawalCause _)))
  · exact (leads_next ..).2 .refl

theorem linkMoves_clearedNotice (s : State) : Leads (execClearedNotice s) (LinkMoves s) := by
  unfold execClearedNotice
  split
  · exact (leads_next ..).2 (linkMoves_ceEvent (.takeAu s))
  · exact (leads_next ..).2 .refl

theorem linkMoves_profileChangeEvent (s : State) : Leads (execProfileChangeEvent s) (LinkMoves s) := by
  unfold execProfileChangeEvent
  split
  · refine (leads_next ..).2 (linkMoves_ceEvent ?_)
    split
    · exact .trans (.takePfu s) (.applyProfileChange _ _)
    · exact .takePfu s
  · exact (leads_next ..).2 .refl

/-! ### The other units -/

theorem leads_requests_if {s t : State} {b : Bool} (h : RequestsOnly s t) :
    Leads (if b then .next t else .next s) (LinkMoves s) := by
  split
  · exact (leads_next ..).2 (.single (.requests h))
  · exact (leads_next ..).2 .refl

theorem linkMoves_pselChange (a b c : Bool) (s : State) : Leads (execPselChange a b c s) (LinkMoves s) := by
  unfold execPselChange
  dsimp only
  split
  · exact (leads_next ..).2 (.single (.requests .of_eq))
  · split
    · exact (leads_next ..).2 .refl
    · exact (leads_next ..).2 (.single (.requests .unchanged))

theorem linkMoves_settleTimerExpiry (s : State) : Leads (execSettleTimerExpiry s) (LinkMoves s) :=
  leads_requests_if .unchanged

theorem RequestsOnly.observeAsserted (s : State) : RequestsOnly s s.observeAsserted := by
  refine .trans (.trans ?_ (.giveSlu _ .shedStart)) (.fire _ .shedSeen)
  exact .of_eq

theorem RequestsOnly.observeReleased (s : State) : RequestsOnly s s.observeReleased := by
  unfold State.observeReleased
  split
  · exact .of_eq
  · refine .trans ?_ (.giveSlu _ .shedEnd)
    exact .of_eq

theorem RequestsOnly.observesDue (s : State) : RequestsOnly s s.observesDue := by
  rcases s.observesDue_cases with ⟨-, e⟩ | ⟨-, -, e⟩ | ⟨-, -, e⟩ <;> rw [e]
  · exact .refl s
  · exact .trans (.observeAsserted s) (.settle _)
  · exact .trans (.observeReleased s) (.settle _)

theorem linkMoves_shdLevelChange (l : Level) (s : State) : Leads (execShdLevelChange l s) (LinkMoves s) := by
  unfold execShdLevelChange
  split
  · exact (leads_next ..).2 (.single (.requests .of_eq))
  · split
    · exact (leads_next ..).2 .refl
    · exact (leads_next ..).2 (.single (.requests (.trans (.observesDue s) .unchanged)))

theorem linkMoves_shdObservedAsserted (s : State) : Leads (execShdObservedAsserted s) (LinkMoves s) :=
  leads_requests_if (.trans (.observeAsserted s) (.settle _))

theorem linkMoves_shdObservedReleased (s : State) : Leads (execShdObservedReleased s) (LinkMoves s) :=
  leads_requests_if (.trans (.observeReleased s) (.settle _))

theorem linkMoves_recoveryTimerExpiry (s : State) : Leads (execRecoveryTimerExpiry s) (LinkMoves s) :=
  leads_requests_if (.settled .unchanged)

theorem linkMoves_pwmeEdge (rising : Bool) (s : State) : Leads (execPwmeEdge rising s) (LinkMoves s) := by
  unfold execPwmeEdge
  dsimp only
  split
  · exact (leads_next ..).2 (.single (.requests .of_eq))
  · split
    all_goals exact (leads_next ..).2 (.single (.requests (.settled .unchanged)))

theorem linkMoves_blankingEnd (s : State) : Leads (execBlankingEnd s) (LinkMoves s) :=
  leads_requests_if (.settled .unchanged)

theorem linkMoves_senseChange (n : Nat) (s : State) : Leads (execSenseChange n s) (LinkMoves s) :=
  (leads_next ..).2 (.single (.requests (.settled .unchanged)))

theorem RequestsOnly.countTrip (s : State) : RequestsOnly s s.countTrip := by
  refine .trans (.fire s .trip) ?_
  exact .unchanged

theorem RequestsOnly.latchTrip (s : State) : RequestsOnly s s.latchTrip := by
  refine .trans ?_ (.fire _ .tripLatched)
  exact .of_eq

theorem RequestsOnly.actOnTrip (s : State) : RequestsOnly s s.actOnTrip := by
  have escalate : RequestsOnly s (s.latchTrip.fire .overdrawPersistent) := (RequestsOnly.latchTrip s).trans (.fire _ _)
  have holds (m : TripMode) : RequestsOnly s (s.holdTrip m) := .unchanged
  unfold State.actOnTrip
  split
  · exact .refl s
  · exact .latchTrip s
  all_goals
    split
    · exact escalate
    · exact holds _

theorem linkMoves_trip (s : State) : Leads (execTrip s) (LinkMoves s) :=
  leads_requests_if (((RequestsOnly.countTrip s).trans (.actOnTrip _)).trans (.settle _))

theorem linkMoves_tripHoldEnd (s : State) : Leads (execTripHoldEnd s) (LinkMoves s) :=
  leads_requests_if (.settled .unchanged)

theorem linkMoves_cleanTimerExpiry (s : State) : Leads (execCleanTimerExpiry s) (LinkMoves s) :=
  leads_requests_if .of_eq

theorem linkMoves_followTimerExpiry (s : State) : Leads (execFollowTimerExpiry s) (LinkMoves s) :=
  leads_requests_if (.settled .unchanged)

theorem linkMoves_endOfFullReset (s : State) : Leads (execEndOfFullReset s) (LinkMoves s) :=
  leads_requests_if (.of_eq rfl rfl rfl rfl rfl rfl rfl rfl)

theorem linkMoves_resetIgnoreEnd (s : State) : Leads (execResetIgnoreEnd s) (LinkMoves s) :=
  leads_requests_if .of_eq

/-! ### The Local Port -/

/-- A request whose carrying out moves the link in steps of `LinkMove` does so with its answer. -/
theorem linkMoves_answer (s : State) (request : Byte) (enough taken inRange : Bool) (carry : State → Carried)
    (carried : taken = true → LinkMoves s.endTransaction (carry s.endTransaction).state) :
    Leads (.next (s.answer request enough taken inRange carry)) (LinkMoves s) := by
  have ends : LinkMoves s s.endTransaction := .single (.requests .unchanged)
  have answers (t : State) (code : RespCode) (data : List Byte) : LinkMove t (t.respond code request data) :=
    .requests .unchanged
  refine (leads_next ..).2 (s.answer_induction (LinkMoves s) request enough taken inRange carry .refl ?_ ?_)
  · exact fun code => ends.tail (answers _ code _)
  · exact fun _ _ ht _ => (ends.trans (carried ht)).tail (answers _ _ _)

/-- A request that does not touch the link. -/
theorem linkMoves_answer_requests (s : State) (request : Byte) (enough taken inRange : Bool) (carry : State → Carried)
    (carried : ∀ t, RequestsOnly t (carry t).state) :
    Leads (.next (s.answer request enough taken inRange carry)) (LinkMoves s) :=
  linkMoves_answer s request enough taken inRange carry fun _ => .single (.requests (carried _))

theorem linkMoves_readCounters (ps : List Byte) (s : State) : Leads (execReadCounters ps s) (LinkMoves s) := by
  refine linkMoves_answer_requests _ _ _ _ _ _ fun t => ?_
  dsimp only
  split <;> exact .unchanged

theorem linkMoves_configure (ps : List Byte) (s : State) : Leads (execConfigure ps s) (LinkMoves s) :=
  linkMoves_answer_requests _ _ _ _ _ _ fun _ => .settled .unchanged

theorem linkMoves_join (s : State) : Leads (execJoin s) (LinkMoves s) :=
  linkMoves_answer _ _ _ _ _ _ fun h => .single (.startsRun .single .join (Bool.and_eq_true_iff.1 h).1 fun _ => rfl)

theorem linkMoves_leave (s : State) : Leads (execLeave s) (LinkMoves s) :=
  linkMoves_answer _ _ _ _ _ _ fun h => .tail (.single (.leaves (s := s.endTransaction) h)) (.requests (.endOfCeEvent _))

theorem linkMoves_setTarget (ps : List Byte) (s : State) : Leads (execSetTarget ps s) (LinkMoves s) :=
  linkMoves_answer_requests _ _ _ _ _ _ fun t => (RequestsOnly.applyTarget t _ _).trans (.endOfCeEvent _)

theorem linkMoves_clearAlarms (ps : List Byte) (s : State) : Leads (execClearAlarms ps s) (LinkMoves s) := by
  have clears (t : State) (named : Word16) : RequestsOnly t (t.clearNamed named) := by
    unfold State.clearNamed
    dsimp only
    split <;> exact .settled .unchanged
  exact linkMoves_answer_requests _ _ _ _ _ _ fun t => (RequestsOnly.auNoticesTaken t _).trans (clears _ _)

theorem linkMoves_lineCheck (ps : List Byte) (s : State) : Leads (execLineCheck ps s) (LinkMoves s) :=
  linkMoves_answer _ _ _ _ _ _ fun h => .single (.startsRun _ .host (Bool.and_eq_true_iff.1 h).1 (by simp))

theorem linkMoves_stopCheck (s : State) : Leads (execStopCheck s) (LinkMoves s) :=
  linkMoves_answer _ _ _ _ _ _ fun h => .single (.stopsRun (s := s.endTransaction) h)

theorem linkMoves_transactionStart (s : State) : Leads (execTransactionStart s) (LinkMoves s) := by
  unfold execTransactionStart
  split
  · exact (leads_next ..).2 .refl
  · exact (leads_next ..).2 (.single (.requests .unchanged))

theorem RequestsOnly.tick (s : State) : RequestsOnly (s.setLrx s.tickLrx) (s.setLrx s.tickLrx |>.setLtx s.tickLtx) :=
  { refl _ with
    repeatTimer := by simp [State.tickLtx, countDown]
    pend := fun k e' h => .inl ⟨e', h, rfl, rfl⟩ }

/-- One unit of time moves the link's timers and the age of a level that may open a frame. -/
theorem linkMoves_tick (s : State) : LinkMoves s s.tick := by
  unfold State.tick
  split
  · exact .refl
  · have ages : LinkMoves s (s.setLrx s.tickLrx) := by
      unfold State.tickLrx
      split
      · rename_i age h
        exact .single (.receives (.starting (age + 1)) (by simp [h]) (by simp))
      all_goals exact .refl
    exact (ages.tail (.requests (.tick s))).tail (.requests .unchanged)

/-- What every command can do to the link. -/
theorem exec_linkMoves (c : Instr) (s : State) : Leads (exec c s) (LinkMoves s) := by
  cases c with
  | fullReset => exact (leads_next ..).2 (.single .resets)
  | startDelimiter => exact linkMoves_startDelimiter s
  | malformedStart => exact linkMoves_malformedStart s
  | violation => exact linkMoves_violation s
  | tooLong => exact linkMoves_tooLong s
  | endDelimiter => exact linkMoves_endDelimiter s
  | lineIdle => exact linkMoves_lineIdle s
  | attemptStart => exact linkMoves_attemptStart s
  | lostArbitration => exact linkMoves_lostArbitration s
  | transmitFault => exact linkMoves_transmitFault s
  | announceTimerExpiry => exact linkMoves_announceTimerExpiry s
  | isolationTimer3P => exact linkMoves_isolationTimer3P s
  | isolationTimer40P => exact linkMoves_isolationTimer40P s
  | repeatTimerExpiry => exact linkMoves_repeatTimerExpiry s
  | duplicateTimerExpiry => exact linkMoves_duplicateTimerExpiry s
  | peerLost id => exact linkMoves_peerLost id s
  | peerForgotten id => exact linkMoves_peerForgotten id s
  | takeAnnounce => exact linkMoves_takeAnnounce s
  | takeIntent => exact linkMoves_takeIntent s
  | takeSettle => exact linkMoves_takeSettle s
  | takeLeave => exact linkMoves_takeLeave s
  | takeOwnRecord => exact linkMoves_takeOwnRecord s
  | takeDuplicateRecord => exact linkMoves_takeDuplicateRecord s
  | takeErrorRecord => exact linkMoves_takeErrorRecord s
  | takeLossRecord => exact linkMoves_takeLossRecord s
  | takeCheckRecord => exact linkMoves_takeCheckRecord s
  | holdWindowExpiry => exact linkMoves_holdWindowExpiry s
  | retryTimerExpiry => exact linkMoves_retryTimerExpiry s
  | listenTimerExpiry => exact linkMoves_listenTimerExpiry s
  | sentNotice => exact linkMoves_sentNotice s
  | droppedNotice => exact linkMoves_droppedNotice s
  | recalledNotice => exact linkMoves_recalledNotice s
  | isolatedNotice => exact linkMoves_isolatedNotice s
  | isolationEndNotice => exact linkMoves_isolationEndNotice s
  | rejoinNotice => exact linkMoves_rejoinNotice s
  | checkPassed => exact linkMoves_checkPassed s
  | checkFailed => exact linkMoves_checkFailed s
  | shedStartNotice => exact linkMoves_shedStartNotice s
  | shedEndNotice => exact linkMoves_shedEndNotice s
  | forceAlarmNotice => exact linkMoves_forceAlarmNotice s
  | clearedNotice => exact linkMoves_clearedNotice s
  | pselChange a b c => exact linkMoves_pselChange a b c s
  | settleTimerExpiry => exact linkMoves_settleTimerExpiry s
  | profileChangeEvent => exact linkMoves_profileChangeEvent s
  | shdObservedAsserted => exact linkMoves_shdObservedAsserted s
  | shdObservedReleased => exact linkMoves_shdObservedReleased s
  | recoveryTimerExpiry => exact linkMoves_recoveryTimerExpiry s
  | pwmeEdge rising => exact linkMoves_pwmeEdge rising s
  | blankingEnd => exact linkMoves_blankingEnd s
  | senseChange n => exact linkMoves_senseChange n s
  | trip => exact linkMoves_trip s
  | tripHoldEnd => exact linkMoves_tripHoldEnd s
  | cleanTimerExpiry => exact linkMoves_cleanTimerExpiry s
  | followTimerExpiry => exact linkMoves_followTimerExpiry s
  | transactionStart => exact linkMoves_transactionStart s
  | unknownRequest code => exact leads_requests_if .unchanged
  | nop => exact leads_requests_if .unchanged
  | readStatus => exact linkMoves_answer_requests _ _ _ _ _ _ fun t => .refl t
  | readSnapshot ps => exact linkMoves_answer_requests _ _ _ _ _ _ fun t => .refl t
  | readCapture => exact linkMoves_answer_requests _ _ _ _ _ _ fun _ => .unchanged
  | readCounters ps => exact linkMoves_readCounters ps s
  | configure ps => exact linkMoves_configure ps s
  | join => exact linkMoves_join s
  | leave => exact linkMoves_leave s
  | setTarget ps => exact linkMoves_setTarget ps s
  | reEnable => exact linkMoves_answer_requests _ _ _ _ _ _ fun _ => .settled .unchanged
  | assertShed => exact linkMoves_answer_requests _ _ _ _ _ _ fun _ => .settled .unchanged
  | releaseShed => exact linkMoves_answer_requests _ _ _ _ _ _ fun _ => .settled .unchanged
  | clearAlarms ps => exact linkMoves_clearAlarms ps s
  | takeSnapshot =>
    exact linkMoves_answer_requests _ _ _ _ _ _ fun t => .trans (t := t.snapshotTaken) .unchanged (.endOfCeEvent _)
  | lineCheck ps => exact linkMoves_lineCheck ps s
  | stopCheck => exact linkMoves_stopCheck s
  | wholeByte b => exact linkMoves_wholeByte b s
  | sdlDominant => exact linkMoves_sdlDominant s
  | shdLevelChange l => exact linkMoves_shdLevelChange l s
  | endOfFullReset => exact linkMoves_endOfFullReset s
  | resetIgnoreEnd => exact linkMoves_resetIgnoreEnd s
  | transactionWithoutRequest => exact leads_requests_if .unchanged

/-- A step takes the front command of the queue, or the block moves by itself: it takes a command of its own, or time passes.
Before it only the queue and the counter of free values have changed. -/
theorem step_cases (s t : State) (h : step s = .next t) :
    (∃ c q n, exec c ((s.setPending q).setFreeCount n) = .next t) ∨ ∃ n, t = (s.setFreeCount n).tick := by
  unfold step at h
  split at h
  · unfold ownStep at h
    split at h
    · cases h
      exact .inr ⟨s.freeCount, rfl⟩
    · split at h
      · cases h
        exact .inr ⟨_, rfl⟩
      · exact .inl ⟨_, s.pending, s.freeCount + 1, h⟩
  · rename_i c rest _
    exact .inl ⟨c, rest, s.freeCount, h⟩

/-- What a step can do to the link. -/
theorem step_linkMoves (s t : State) (h : step s = .next t) : LinkMoves s t := by
  rcases step_cases s t h with ⟨c, q, n, h⟩ | ⟨n, rfl⟩
  · exact .head (.requests .unchanged) (exec_linkMoves c _ t h)
  · exact .head (.requests .unchanged) (linkMoves_tick _)

end Sys2Proof.Machine
end

section
/-! ## Every step keeps LinkSound (O57) -/

namespace Sys2Proof.Machine

namespace PendingSet

@[simp] theorem get_settle (p : PendingSet) : p.get .settle = p.settle := rfl
@[simp] theorem get_leave (p : PendingSet) : p.get .leave = p.leave := rfl
@[simp] theorem get_intent (p : PendingSet) : p.get .intent = p.intent := rfl
@[simp] theorem get_announce (p : PendingSet) : p.get .announce = p.announce := rfl
@[simp] theorem get_check (p : PendingSet) : p.get .check = p.check := rfl

/-- The candidate is in the set (R22). -/
theorem get_candidate (p : PendingSet) (k : FrameKind) (h : p.candidate = some k) : (p.get k).isSome = true := by
  unfold candidate at h
  (repeat' split at h) <;> cases h <;> assumption

end PendingSet

/-- CHECK is taken in a run alone (R20). -/
theorem State.requestTaken_check_iff (s : State) :
    s.requestTaken .check = true ↔ s.own.attach = .detached ∧ s.ltx.check.run.isSome = true := by
  cases h : s.own.attach <;> simp [requestTaken, lineCheckRunning, h]

namespace RequestsOnly

/-- A kind that was not in the set and that LTX does not take is not in it. -/
theorem get_eq_none {s t : State} (h : RequestsOnly s t) (k : FrameKind) (hs : s.ltx.pend.get k = none)
    (ht : k ≠ .check → s.requestTaken k = false) : t.ltx.pend.get k = none := by
  rw [Option.eq_none_iff_forall_ne_some]
  intro e' he
  rcases h.pend k e' he with ⟨e, hs', -⟩ | ⟨-, -, hk, hq⟩
  · rw [hs] at hs'; cases hs'
  · rw [ht hk] at hq; cases hq

theorem passed_mem_iff {s t : State} (h : RequestsOnly s t) :
    .checkPassed ∈ t.notices.ltx ↔ .checkPassed ∈ s.notices.ltx := by
  rw [← List.count_pos_iff, ← List.count_pos_iff, h.passes]

theorem attempt_eq_none_iff {s t : State} (h : RequestsOnly s t) : t.ltx.attempt = none ↔ s.ltx.attempt = none := by
  rw [← Option.map_eq_none_iff (f := (·.kind)), h.attempt, Option.map_eq_none_iff]

theorem attempt_kind {s t : State} (h : RequestsOnly s t) (a : Attempt) (ha : t.ltx.attempt = some a) :
    ∃ b, s.ltx.attempt = some b ∧ b.kind = a.kind := by
  have e := h.attempt
  rw [ha] at e
  simpa [eq_comm] using e.symm

theorem linkSound {s t : State} (h : RequestsOnly s t) (hs : LinkSound s) : LinkSound t where
  bytes := by rw [h.lrx]; exact hs.bytes
  runDetached := by rw [h.run, h.detached_iff]; exact hs.runDetached
  checkOnly := by rw [h.lrx, h.run, h.passed_mem_iff]; exact hs.checkOnly
  disabled := by rw [h.lrx, h.run, h.detached_iff]; exact hs.disabled
  queueEmpty := by rw [h.detached_iff, h.passed_mem_iff, h.rsq, h.lrx]; exact hs.queueEmpty
  pendingDetached := by
    rw [h.detached_iff]
    intro hd
    obtain ⟨h1, h2, h3, h4⟩ := hs.pendingDetached hd
    have untaken (k : FrameKind) (hk : k ≠ .check) : s.requestTaken k = false := by
      rw [← Bool.not_eq_true, State.requestTaken_iff _ _ hk]
      simp [hd]
    exact ⟨h.get_eq_none .settle h1 (untaken _), h.get_eq_none .leave h2 (untaken _), h.get_eq_none .intent h3 (untaken _),
      h.get_eq_none .announce h4 (untaken _)⟩
  pendingLeaving := by
    rw [h.leaving_iff]
    intro hl
    obtain ⟨h1, h2, h3⟩ := hs.pendingLeaving hl
    have untaken (k : FrameKind) (hk : k ≠ .leave) (hc : k ≠ .check) : s.requestTaken k = false := by
      rw [← Bool.not_eq_true, State.requestTaken_iff _ _ hc]
      simp [hl, hk]
    exact ⟨h.get_eq_none .settle h1 (untaken _ (by decide)), h.get_eq_none .intent h2 (untaken _ (by decide)),
      h.get_eq_none .announce h3 (untaken _ (by decide))⟩
  pendingCheck := by
    rw [h.run]
    intro hc
    refine hs.pendingCheck ?_
    by_contra hn
    rw [Option.not_isSome_iff_eq_none] at hn
    have := h.get_eq_none .check hn (by simp)
    rw [PendingSet.get_check] at this
    simp [this] at hc
  attemptDetached := by
    rw [h.detached_iff, h.run, h.attempt_eq_none_iff]
    refine fun hd => ⟨(hs.attemptDetached hd).1, fun a ha => ?_⟩
    obtain ⟨b, hb, hk⟩ := h.attempt_kind a ha
    exact hk ▸ (hs.attemptDetached hd).2 b hb
  waitingQuiet := by
    rw [h.run, h.attempt_eq_none_iff]
    intro r hr hw
    obtain ⟨ha, hc⟩ := hs.waitingQuiet r hr hw
    exact ⟨ha, h.get_eq_none .check hc (by simp)⟩
  repeatTimer := by rw [h.repeatTimer, h.run]; exact hs.repeatTimer
  joinRun := by rw [h.owner, h.run]; exact hs.joinRun
  passHeld := by
    rw [h.passed_mem_iff, h.run, h.owner, h.attempt_eq_none_iff]
    intro hp
    obtain ⟨h1, h2, h3, h4⟩ := hs.passHeld hp
    exact ⟨h1, h2, h3, h.get_eq_none .check h4 (by simp)⟩
  passOnce := by rw [h.passes]; exact hs.passOnce

end RequestsOnly

namespace LinkSound

variable {s : State}

/-! ### What LinkSound says in a run and outside one -/

/-- While an attempt is in flight no CHECK PASSED waits. -/
theorem no_pass_of_attempt (h : LinkSound s) (ha : s.ltx.attempt ≠ none) : .checkPassed ∉ s.notices.ltx :=
  fun hp => ha (h.passHeld hp).2.2.1

theorem no_pass_of_no_run (h : LinkSound s) (hr : s.ltx.check.run = none) : .checkPassed ∉ s.notices.ltx := by
  intro hp
  have := (h.passHeld hp).1
  simp [hr] at this

theorem run_eq_none (h : LinkSound s) (hd : s.own.attach ≠ .detached) : s.ltx.check.run = none := by
  by_contra hr
  exact hd (h.runDetached (Option.isSome_iff_ne_none.2 hr))

theorem repeatTimer_eq_none (h : LinkSound s) (hr : ∀ r, s.ltx.check.run = some r → r.phase ≠ .waiting) :
    s.ltx.check.repeatTimer = none := by
  rw [← Option.not_isSome_iff_eq_none, h.repeatTimer]
  simpa [Option.any_eq_true] using hr

/-! ### The receiver -/

theorem setLrxState (h : LinkSound s) (x : LrxState) (hd : x = .disabled ↔ s.lrx.state = .disabled)
    (hb : ∀ bs, x = .receiving bs → x = s.lrx.state ∨ bs.length ≤ 24) : LinkSound (s.setLrxState x) :=
  { h with
    bytes := fun bs hx => (hb bs hx).elim (fun e => h.bytes bs (e.symm.trans hx)) id
    disabled := hd.trans h.disabled }

/-- Outside DISABLED, and not in check-only mode, the station is attached or holds a JOIN run that has passed: so the queue and
the line count are free. -/
theorem queue_free (h : LinkSound s) (hd : s.lrx.state ≠ .disabled) (ho : s.lrx.checkOnly = false)
    (ha : s.own.attach = .detached) :
    .checkPassed ∈ s.notices.ltx := by
  by_contra hp
  have hr : s.ltx.check.run ≠ none := fun hr => hd (h.disabled.2 ⟨ha, hr⟩)
  have := h.checkOnly.2 ⟨Option.isSome_iff_ne_none.2 hr, hp⟩
  rw [ho] at this
  cases this

theorem setLineCount (h : LinkSound s) (c : Option Nat) (ho : s.lrx.checkOnly = false) (hd : s.lrx.state ≠ .disabled) :
    LinkSound (s.setLrx { s.lrx with lineCount := c }) :=
  { h with queueEmpty := fun ha hp => absurd (h.queue_free hd ho ha) hp }

theorem handRecord (h : LinkSound s) (r : FrameRecord) (hd : s.lrx.state ≠ .disabled) : LinkSound (s.handRecord r) := by
  cases ho : s.lrx.checkOnly with
  | true => rw [s.handRecord_of_checkOnly r ho]; exact h
  | false =>
    have hn : (s.handRecord r).notices.ltx = s.notices.ltx := by
      unfold State.handRecord State.appendRecord State.overrun State.setCounters
      (repeat' split) <;> simp
    exact
      { bytes := by simpa using h.bytes
        runDetached := by simpa using h.runDetached
        checkOnly := by simpa [hn] using h.checkOnly
        disabled := by simpa using h.disabled
        queueEmpty := by
          rw [State.handRecord_own, hn]
          exact fun ha hp => absurd (h.queue_free hd ho ha) hp
        pendingDetached := by simpa using h.pendingDetached
        pendingLeaving := by simpa using h.pendingLeaving
        pendingCheck := by simpa using h.pendingCheck
        attemptDetached := by simpa using h.attemptDetached
        waitingQuiet := by simpa using h.waitingQuiet
        repeatTimer := by simpa using h.repeatTimer
        joinRun := by simpa using h.joinRun
        passHeld := by simpa [hn] using h.passHeld
        passOnce := by simpa [hn] using h.passOnce }

theorem dropHead (h : LinkSound s) (hd : s.own.attach ≠ .detached) : LinkSound s.dropHead :=
  { h with queueEmpty := fun ha => absurd ha hd }

/-! ### Runs -/

/-- A run ends, while no attempt is in flight and no pass waits to be taken. -/
theorem endRun (h : LinkSound s) (hr : s.ltx.check.run.isSome = true) (ha : s.ltx.attempt = none)
    (hp : .checkPassed ∉ s.notices.ltx) : LinkSound s.endRun := by
  have hd := h.runDetached hr
  exact
    { bytes := fun bs hb => by cases hb
      runDetached := fun hr => by cases hr
      checkOnly := by simp [State.endRun, State.disableLrx]
      disabled := by simp [State.endRun, State.disableLrx, hd]
      queueEmpty := fun _ _ => h.queueEmpty hd hp
      pendingDetached := fun _ => ⟨rfl, rfl, rfl, rfl⟩
      pendingLeaving := fun _ => ⟨rfl, rfl, rfl⟩
      pendingCheck := fun hc => by cases hc
      attemptDetached := fun _ => ⟨fun _ => ha, fun a hx => by
        have : s.ltx.attempt = some a := hx
        rw [ha] at this
        cases this⟩
      waitingQuiet := fun r hx => by cases hx
      repeatTimer := by simp [State.endRun, State.disableLrx]
      joinRun := fun _ r hx => by cases hx
      passHeld := fun hx => absurd hx hp
      passOnce := h.passOnce }

/-! ### The pending set loses kinds -/

/-- What leaves every kind out of the set that was not in it, and nothing else of the link but the notices. -/
theorem of_shrunk {t : State} (h : LinkSound s) (pend : ∀ k, s.ltx.pend.get k = none → t.ltx.pend.get k = none)
    (passes : t.notices.ltx.count .checkPassed = s.notices.ltx.count .checkPassed)
    (lrx : t.lrx = s.lrx := by simp) (rsq : t.rsq = s.rsq := by simp) (check : t.ltx.check = s.ltx.check := by simp)
    (attempt : t.ltx.attempt = s.ltx.attempt := by simp) (attach : t.own.attach = s.own.attach := by simp) : LinkSound t := by
  have mem : .checkPassed ∈ t.notices.ltx ↔ .checkPassed ∈ s.notices.ltx := by
    rw [← List.count_pos_iff, ← List.count_pos_iff, passes]
  exact
    { bytes := by rw [lrx]; exact h.bytes
      runDetached := by rw [check, attach]; exact h.runDetached
      checkOnly := by rw [lrx, check, mem]; exact h.checkOnly
      disabled := by rw [lrx, check, attach]; exact h.disabled
      queueEmpty := by rw [attach, mem, rsq, lrx]; exact h.queueEmpty
      pendingDetached := by
        rw [attach]
        intro hd
        obtain ⟨h1, h2, h3, h4⟩ := h.pendingDetached hd
        exact ⟨pend .settle h1, pend .leave h2, pend .intent h3, pend .announce h4⟩
      pendingLeaving := by
        rw [attach]
        intro hl
        obtain ⟨h1, h2, h3⟩ := h.pendingLeaving hl
        exact ⟨pend .settle h1, pend .intent h2, pend .announce h3⟩
      pendingCheck := by
        rw [check]
        intro hc
        refine h.pendingCheck (Option.isSome_iff_ne_none.2 fun hn => ?_)
        have : t.ltx.pend.check = none := pend .check hn
        simp [this] at hc
      attemptDetached := by rw [attach, check, attempt]; exact h.attemptDetached
      waitingQuiet := by
        rw [check, attempt]
        exact fun r hr hw => ⟨(h.waitingQuiet r hr hw).1, pend .check (h.waitingQuiet r hr hw).2⟩
      repeatTimer := by rw [check]; exact h.repeatTimer
      joinRun := by rw [check]; exact h.joinRun
      passHeld := by
        rw [mem, check, attempt]
        intro hp
        obtain ⟨h1, h2, h3, h4⟩ := h.passHeld hp
        exact ⟨h1, h2, h3, pend .check h4⟩
      passOnce := by rw [passes]; exact h.passOnce }

end LinkSound

namespace PendingSet

/-- Whatever a kind in the set becomes, no other kind has come into it. -/
theorem get_put_eq_none (p : PendingSet) (k j : FrameKind) (e : Option PendEntry) (hk : e = none ∨ (p.get k).isSome = true)
    (hj : p.get j = none) : (p.put k e).get j = none := by
  by_cases hjk : j = k
  · subst hjk
    rcases hk with rfl | hk
    · simp
    · simp [hj] at hk
  · rw [get_put_other _ _ _ _ hjk, hj]

end PendingSet

namespace LinkSound

variable {s : State}

theorem clearAttempt (h : LinkSound s) : LinkSound s.releaseSdl :=
  { h with
    attemptDetached := fun _ => ⟨fun _ => rfl, fun a ha => by cases ha⟩
    waitingQuiet := fun r hr hw => ⟨rfl, (h.waitingQuiet r hr hw).2⟩
    passHeld := fun hp => ⟨(h.passHeld hp).1, (h.passHeld hp).2.1, rfl, (h.passHeld hp).2.2.2⟩ }

theorem sentLeavesSet (h : LinkSound s) (k : FrameKind) : LinkSound (s.sentLeavesSet k) := by
  unfold State.sentLeavesSet
  split
  · exact h
  · rename_i e he
    exact h.of_shrunk (fun j hj => PendingSet.get_put_eq_none _ _ _ _ (.inr (by simp [he])) hj) rfl rfl rfl rfl rfl rfl

theorem attemptFailed (h : LinkSound s) (k : FrameKind) (raise : PendEntry → PendEntry) :
    LinkSound (s.attemptFailed k raise) := by
  unfold State.attemptFailed
  split
  · split
    · exact (RequestsOnly.of_eq (t := s.setLtx _)).linkSound h
    · exact h
  · rename_i e he
    split
    · exact h.of_shrunk (fun j hj => PendingSet.get_put_eq_none _ _ _ _ (.inl rfl) hj)
        (by simp [State.settleRecall, State.giveLtx]) rfl rfl rfl rfl rfl
    · split
      · exact h.of_shrunk (fun j hj => PendingSet.get_put_eq_none _ _ _ _ (.inl rfl) hj)
          (by simp [State.dropKind, State.giveLtx, State.setCounters, State.setPend]) rfl rfl rfl rfl rfl
      · exact h.of_shrunk (fun j hj => PendingSet.get_put_eq_none _ _ _ _ (.inr (by simp [he])) hj) rfl rfl rfl rfl rfl rfl

end LinkSound

theorem RequestsOnly.sentRestartsIsolation (s : State) : RequestsOnly s s.sentRestartsIsolation := by
  unfold State.sentRestartsIsolation
  dsimp only
  split
  · split
    · refine .trans ?_ (.giveLtx _ .isolationEnd (by decide))
      exact .of_eq
    · exact .of_eq
  · exact .refl s

namespace LinkSound

variable {s : State}

/-! ### What follows a check -/

/-- The check of a run has been made: no attempt is in flight, and no pass waits. -/
theorem afterCheck (h : LinkSound s) (passed : Bool) (ha : s.ltx.attempt = none) (hp : .checkPassed ∉ s.notices.ltx) :
    LinkSound (s.afterCheck passed) := by
  have leaves : LinkSound (s.setPend (s.ltx.pend.put .check none)) :=
    h.of_shrunk (fun j hj => PendingSet.get_put_eq_none _ _ _ _ (.inl rfl) hj) rfl rfl rfl rfl rfl rfl
  unfold State.afterCheck
  split
  · exact leaves
  · rename_i r hr
    have running : s.ltx.check.run.isSome = true := by simp [hr]
    have ended := h.endRun running ha hp
    split
    · rename_i hj
      have single := h.joinRun hj r hr
      split
      · exact
          { leaves with
            checkOnly := by simp [State.endJoinRun, State.giveLtx]
            queueEmpty := fun _ hx => absurd (by simp [State.endJoinRun, State.giveLtx]) hx
            passHeld := fun _ => ⟨running, hj, ha, rfl⟩
            passOnce := by
              have : s.notices.ltx.count .checkPassed = 0 := List.count_eq_zero.2 hp
              simp [State.endJoinRun, State.giveLtx, State.setPend, this] }
      · exact (RequestsOnly.giveLtx _ .checkFailed (by decide)).linkSound ended
    · rename_i hj
      split
      · exact ended
      · split
        · exact
            { leaves with
              runDetached := fun _ => h.runDetached running
              checkOnly := by simpa [State.waitRun, hr] using h.checkOnly
              disabled := by simpa [State.waitRun, hr] using h.disabled
              pendingCheck := fun hx => by cases hx
              attemptDetached := fun hd => ⟨fun hx => (nomatch hx), (h.attemptDetached hd).2⟩
              waitingQuiet := fun _ _ _ => ⟨ha, rfl⟩
              repeatTimer := by simp [State.waitRun]
              joinRun := fun hx => absurd hx hj
              passHeld := fun hx => absurd hx hp }
        · exact ended

theorem checkPasses (h : LinkSound s) (ha : s.ltx.attempt = none) (hp : .checkPassed ∉ s.notices.ltx) :
    LinkSound s.checkPasses := by
  refine LinkSound.afterCheck (s := s.setLtx _) ?_ true ha hp
  exact { h with }

theorem checkFails (h : LinkSound s) (ha : s.ltx.attempt = none) (hp : .checkPassed ∉ s.notices.ltx) :
    LinkSound s.checkFails := by
  refine LinkSound.afterCheck ((RequestsOnly.fire _ .lineFault).linkSound ?_) false (by simpa using ha) (by simpa using hp)
  exact { h with }

theorem attemptSent (h : LinkSound s) (good : Bool) : LinkSound (s.attemptSent good) := by
  unfold State.attemptSent
  split
  · exact h
  · rename_i a ha
    have cleared := h.clearAttempt
    have hp := h.no_pass_of_attempt (by simp [ha])
    dsimp only
    split
    · split
      · exact cleared.checkPasses rfl hp
      · exact cleared.checkFails rfl hp
    · have settled : LinkSound (s.releaseSdl.sentSettlesIntent a) := by
        refine RequestsOnly.linkSound ?_ cleared
        unfold State.sentSettlesIntent
        split <;> exact .of_eq
      exact ((RequestsOnly.giveLtx _ (.sent a.kind) (by simp)).trans (.sentRestartsIsolation _)).linkSound
        (settled.sentLeavesSet a.kind)

/-! ### The start and the other ends of an attempt -/

theorem beginAttempt (h : LinkSound s) (k : FrameKind) (hk : s.attemptDue = some k) : LinkSound (s.beginAttempt k) := by
  obtain ⟨ha, hm, -, hc, -⟩ := (s.attemptDue_eq_some_iff k).1 hk
  have inSet := s.ltx.pend.get_candidate k hc
  /- In DETACHED only CHECK is in the set, and so it is the candidate. -/
  have isCheck (hd : s.own.attach = .detached) : k = .check := by
    obtain ⟨h1, h2, h3, h4⟩ := h.pendingDetached hd
    cases k <;> simp_all
  have notInSet (hr : s.ltx.check.run.isSome = true) (hx : s.ltx.pend.check = none) : False := by
    rw [isCheck (h.runDetached hr)] at inSet
    simp [hx] at inSet
  exact
    { h with
      attemptDetached := fun hd => by
        refine ⟨fun hr => ?_, fun a hx => ?_⟩
        · have hr : s.ltx.check.run = none := hr
          have hd : s.own.attach = .detached := hd
          simp [State.mayTransmit, State.lineCheckRunning, hd, hr] at hm
        · cases hx
          exact isCheck hd
      waitingQuiet := fun r hr hw => (notInSet (Option.isSome_of_eq_some hr) (h.waitingQuiet r hr hw).2).elim
      passHeld := fun hp => (notInSet (h.passHeld hp).1 (h.passHeld hp).2.2.2).elim }

theorem loseArbitration (h : LinkSound s) (a : Attempt) (ha : s.ltx.attempt = some a) :
    LinkSound (s.loseArbitration a.kind) := by
  have hp := h.no_pass_of_attempt (by simp [ha])
  have lost : LinkSound (s.releaseSdl.sdlReadsDominant.setCounters
      { s.lport.counters with lostArb := bump s.lport.counters.lostArb }) := { h.clearAttempt with }
  unfold State.loseArbitration
  dsimp only
  split
  · rename_i hs
    obtain ⟨r, hr, -⟩ := (Option.any_eq_true _ _).1 hs.2
    exact lost.endRun (Option.isSome_of_eq_some hr) rfl hp
  · exact lost.attemptFailed _ _

theorem meetFault (h : LinkSound s) (a : Attempt) (ha : s.ltx.attempt = some a) : LinkSound (s.meetFault a.kind) := by
  have hp := h.no_pass_of_attempt (by simp [ha])
  have fault : LinkSound (s.releaseSdl.sdlReadsRecessive.setCounters
      { s.lport.counters with txFault := bump s.lport.counters.txFault }) := { h.clearAttempt with }
  have fired := (RequestsOnly.fire _ .lineFault).linkSound fault
  unfold State.meetFault
  dsimp only
  split
  · exact fired.checkFails (by rw [State.fire_ltx]; rfl) (by rw [State.fire_notices_ltx]; exact hp)
  · exact fired.attemptFailed _ _

/-! ### The line check -/

/-- A request for CHECK in a run that is sending and holds no pass. -/
theorem requestCheck (h : LinkSound s) (hr : ∀ r, s.ltx.check.run = some r → r.phase ≠ .waiting)
    (hp : .checkPassed ∉ s.notices.ltx) : LinkSound (s.request .check) := by
  have other (k : FrameKind) (hk : k ≠ .check) := s.request_pend_other .check k hk
  have e := s.request_ltx .check
  exact
    { bytes := by simpa using h.bytes
      runDetached := by rw [e]; simpa using h.runDetached
      checkOnly := by rw [e]; simpa using h.checkOnly
      disabled := by rw [e]; simpa using h.disabled
      queueEmpty := by simpa using h.queueEmpty
      pendingDetached := by
        rw [State.request_own]
        intro hd
        obtain ⟨h1, h2, h3, h4⟩ := h.pendingDetached hd
        exact ⟨(other .settle (by decide)).trans h1, (other .leave (by decide)).trans h2, (other .intent (by decide)).trans h3,
          (other .announce (by decide)).trans h4⟩
      pendingLeaving := by
        rw [State.request_own]
        intro hl
        obtain ⟨h1, h2, h3⟩ := h.pendingLeaving hl
        exact ⟨(other .settle (by decide)).trans h1, (other .intent (by decide)).trans h2, (other .announce (by decide)).trans h3⟩
      pendingCheck := by
        intro hc
        rw [e]
        cases taken : s.requestTaken .check with
        | false =>
          rw [s.request_of_ignored _ taken] at hc
          exact h.pendingCheck hc
        | true =>
          rw [State.request_ltx]
          exact (s.requestTaken_check_iff.1 taken).2
      attemptDetached := by rw [e]; simpa using h.attemptDetached
      waitingQuiet := by
        rw [e]
        exact fun r hx hw => absurd hw (hr r hx)
      repeatTimer := by rw [e]; simpa using h.repeatTimer
      joinRun := by rw [e]; simpa using h.joinRun
      passHeld := by
        rw [State.request_notices]
        exact fun hx => absurd hx hp
      passOnce := by simpa using h.passOnce }

theorem nextCheck (h : LinkSound s) (hr : s.repeatDue = true) : LinkSound s.nextCheck := by
  simp only [State.repeatDue, Bool.and_eq_true] at hr
  obtain ⟨r, hrun, hw⟩ := (Option.any_eq_true _ _).1 hr.2
  rw [beq_iff_eq] at hw
  have notJoin : s.ltx.check.owner ≠ some .join := fun hj => by
    rw [h.joinRun hj r hrun] at hw
    cases hw
  have hp : .checkPassed ∉ s.notices.ltx := fun hx => notJoin (h.passHeld hx).2.1
  refine LinkSound.requestCheck (s := s.setLtx _) ?_ (by simp [hrun]) hp
  exact
    { h with
      runDetached := by simpa using h.runDetached
      checkOnly := by simpa using h.checkOnly
      disabled := by simpa using h.disabled
      pendingCheck := by simpa using h.pendingCheck
      attemptDetached := by simpa using h.attemptDetached
      waitingQuiet := fun x hx => by
        simp only [State.setLtx_ltx, hrun, Option.map_some, Option.some.injEq] at hx
        simp [← hx]
      repeatTimer := by simp [hrun]
      joinRun := fun hx => absurd hx notJoin
      passHeld := fun hx => absurd hx hp }

/-- A run begins where none is: everything of the link is at rest. -/
theorem beginRun (h : LinkSound s) (m : CheckMode) (o : CheckOwner) (hi : s.idleDetached = true)
    (hm : o = .join → m = .single) : LinkSound (s.beginRun m o) := by
  simp only [State.idleDetached, State.lineCheckRunning, Bool.and_eq_true, beq_iff_eq, Bool.not_eq_true',
    Option.isSome_eq_false_iff, Option.isNone_iff_eq_none] at hi
  obtain ⟨hd, hr⟩ := hi
  have hp := h.no_pass_of_no_run hr
  have quiet := (h.attemptDetached hd).1 hr
  refine LinkSound.requestCheck (s := (s.setLtx _).setLrx _) ?_ (by simp) hp
  exact
    { h with
      bytes := fun bs hb => by cases hb
      runDetached := fun _ => hd
      checkOnly := by simpa using hp
      disabled := by simp
      pendingCheck := fun _ => rfl
      attemptDetached := fun _ => ⟨fun hx => (nomatch hx), (h.attemptDetached hd).2⟩
      waitingQuiet := fun r hx hw => by cases hx; cases hw
      repeatTimer := by simp
      joinRun := fun ho r hx => by
        simp only [State.setLrx_ltx, State.setLtx_ltx, Option.some.injEq] at ho hx
        rw [← hx, hm ho]
      passHeld := fun hx => absurd hx hp }

theorem stopRun (h : LinkSound s) (hm : s.mayStop = true) : LinkSound s.stopRun := by
  simp only [State.mayStop, State.lineCheckRunning, Bool.and_eq_true, beq_iff_eq] at hm
  obtain ⟨running, hh⟩ := hm
  have notJoin : s.ltx.check.owner ≠ some .join := by simp [hh]
  have hp : .checkPassed ∉ s.notices.ltx := fun hx => notJoin (h.passHeld hx).2.1
  unfold State.stopRun
  split
  · exact h
  · rename_i r hr
    split
    · rename_i hw
      exact h.endRun running (h.waitingQuiet r hr hw).1 hp
    · rename_i hw
      split
      · exact
          { h with
            runDetached := fun _ => h.runDetached running
            checkOnly := by simpa [hr] using h.checkOnly
            disabled := by simpa [hr] using h.disabled
            pendingCheck := fun _ => rfl
            attemptDetached := fun hd => ⟨fun hx => (nomatch hx), (h.attemptDetached hd).2⟩
            waitingQuiet := fun x hx hy => by cases hx; cases hy
            repeatTimer := by
              have := h.repeatTimer_eq_none (by simp [hr, hw])
              simp [this]
            joinRun := fun hx => absurd hx notJoin
            passHeld := fun hx => absurd hx hp }
      · rename_i ha
        exact h.endRun running (Option.not_isSome_iff_eq_none.1 ha) hp
    · exact h

/-! ### LEAVE, its completion, and the end of the line check of JOIN -/

theorem takeLeaveRequest (h : LinkSound s) (ha : s.attached = true) : LinkSound s.takeLeaveRequest := by
  obtain ⟨hd, -⟩ := s.attached_eq_true_iff.1 ha
  have hr := h.run_eq_none hd
  exact
    { h with
      runDetached := fun hx => by
        have : s.ltx.check.run.isSome = true := hx
        simp [hr] at this
      disabled := ⟨fun hx => absurd (h.disabled.1 hx).1 hd, fun hx => by cases hx.1⟩
      queueEmpty := fun hx => by cases hx
      pendingDetached := fun hx => by cases hx
      pendingLeaving := fun _ => ⟨rfl, rfl, rfl⟩
      pendingCheck := fun hx => by cases hx
      attemptDetached := fun hx => by cases hx
      waitingQuiet := fun r hx hw => ⟨(h.waitingQuiet r hx hw).1, rfl⟩
      passHeld := fun hx => absurd hx (h.no_pass_of_no_run hr) }

theorem completeLeave (h : LinkSound s) (hl : s.own.attach = .leaving) : LinkSound s.completeLeave := by
  have hr := h.run_eq_none (by simp [hl])
  have hp := h.no_pass_of_no_run hr
  exact
    { h with
      bytes := fun bs hx => by cases hx
      runDetached := fun _ => rfl
      checkOnly := ⟨fun hx => (nomatch hx), fun hx => by
        have : s.ltx.check.run.isSome = true := hx.1
        simp [hr] at this⟩
      disabled := ⟨fun _ => ⟨rfl, hr⟩, fun _ => rfl⟩
      queueEmpty := fun _ _ => ⟨rfl, rfl⟩
      pendingDetached := fun _ => ⟨rfl, rfl, rfl, rfl⟩
      pendingLeaving := fun _ => ⟨rfl, rfl, rfl⟩
      pendingCheck := fun hx => by cases hx
      attemptDetached := fun _ => ⟨fun _ => rfl, fun a hx => by cases hx⟩
      waitingQuiet := fun _ _ _ => ⟨rfl, rfl⟩
      passHeld := fun hx => absurd hx hp }

/-- CE takes a notice of LTX other than CHECK PASSED. -/
theorem takeLtx (h : LinkSound s) (n : LtxNotice) (rest : List LtxNotice) (hn : s.notices.ltx = n :: rest)
    (hc : n ≠ .checkPassed) : LinkSound s.takeLtx := by
  refine RequestsOnly.linkSound ?_ h
  exact { RequestsOnly.refl s with passes := by simp [State.takeLtx, hn, hc] }

/-- CE takes CHECK PASSED: no other waits, and the run ends with the station in LISTENING. -/
theorem takesPass (h : LinkSound s) (rest : List LtxNotice) (hn : s.notices.ltx = .checkPassed :: rest) :
    LinkSound (if s.own.attach = .detached then s.takeLtx.enterListening else s.takeLtx) := by
  have mem : .checkPassed ∈ s.notices.ltx := by simp [hn]
  obtain ⟨running, -, quiet, -⟩ := h.passHeld mem
  have hd := h.runDetached running
  have gone : .checkPassed ∉ rest := by
    have := h.passOnce
    rw [hn, List.count_cons_self] at this
    exact List.count_eq_zero.1 (by omega)
  have hnot : s.takeLtx.enterListening.notices.ltx = rest := by
    simp [State.enterListening, State.takeLtx, hn]
  rw [if_pos hd]
  exact
    { h with
      runDetached := fun hx => by cases hx
      checkOnly := ⟨fun hx => absurd mem (h.checkOnly.1 hx).2, fun hx => by cases hx.1⟩
      disabled := ⟨fun hx => by
        have := (h.disabled.1 hx).2
        simp [this] at running, fun hx => by cases hx.1⟩
      queueEmpty := fun hx => by cases hx
      pendingDetached := fun hx => by cases hx
      pendingLeaving := fun hx => by cases hx
      pendingCheck := fun hx => by cases hx
      attemptDetached := fun hx => by cases hx
      waitingQuiet := fun r hx => by cases hx
      repeatTimer := by simp [State.enterListening]
      joinRun := fun _ r hx => by cases hx
      passHeld := by rw [hnot]; exact fun hx => absurd hx gone
      passOnce := by rw [hnot, List.count_eq_zero.2 gone]; omega }

/-! ### The full reset, and every step -/

theorem inFullReset (pins : Pins) (profile n : Nat) (q : List Instr) : LinkSound (.inFullReset pins profile n q) where
  bytes := fun bs h => by cases h
  runDetached := fun _ => rfl
  checkOnly := ⟨fun h => (nomatch h), fun h => (nomatch h.1)⟩
  disabled := ⟨fun _ => ⟨rfl, rfl⟩, fun _ => rfl⟩
  queueEmpty := fun _ _ => ⟨rfl, rfl⟩
  pendingDetached := fun _ => ⟨rfl, rfl, rfl, rfl⟩
  pendingLeaving := fun _ => ⟨rfl, rfl, rfl⟩
  pendingCheck := fun h => by cases h
  attemptDetached := fun _ => ⟨fun _ => rfl, fun a h => by cases h⟩
  waitingQuiet := fun r h => by cases h
  repeatTimer := ⟨fun h => (nomatch h), fun h => by cases h⟩
  joinRun := fun h => by cases h
  passHeld := fun h => by cases h
  passOnce := Nat.zero_le _

theorem move {s t : State} (m : LinkMove s t) (h : LinkSound s) : LinkSound t := by
  cases m with
  | requests m => exact m.linkSound h
  | dropsHead hd => exact h.dropHead hd
  | takesNotice n rest hn hc => exact h.takeLtx n rest hn hc
  | takesPass rest hn => exact h.takesPass rest hn
  | resets => exact inFullReset ..
  | receives x hd hb => exact h.setLrxState x hd hb
  | counts c ho hd => exact h.setLineCount c ho hd
  | captures c => exact { h with }
  | handsRecord r hd => exact h.handRecord r hd
  | sends good => exact h.attemptSent good
  | begins k hk => exact h.beginAttempt k hk
  | loses a ha => exact h.loseArbitration a ha
  | faults a ha => exact h.meetFault a ha
  | repeats hr => exact h.nextCheck hr
  | startsRun m o hi hm => exact h.beginRun m o hi hm
  | stopsRun hm => exact h.stopRun hm
  | leaves ha => exact h.takeLeaveRequest ha
  | completesLeave hl => exact h.completeLeave hl

end LinkSound

/-- What every single move keeps, every run of moves keeps. -/
theorem LinkMoves.keeps {P : State → Prop} (keep : ∀ {s t}, LinkMove s t → P s → P t) {s t : State} (m : LinkMoves s t)
    (h : P s) : P t := by
  induction m with
  | refl => exact h
  | tail _ m ih => exact keep m ih

/-- Settles O57: each single move of the link keeps LinkSound, and a step is a run of such moves. -/
theorem linkStaysSound : Obligations.LinkStaysSound :=
  fun s t hs hstep => LinkMoves.keeps LinkSound.move (step_linkMoves s t hstep) hs

end Sys2Proof.Machine
end

section
/-! ## Every step keeps the form of the queue and the counts of the pending set (O56) -/

namespace Sys2Proof.Machine

/-! ### The Receive Status Queue -/

namespace QueueSound

theorem atReset : QueueSound .atReset where
  atMostEight := by decide
  pendingOnlyWhenFull := fun h => absurd rfl h
  pendingRange := by decide
  lostRange := fun n h => nomatch h
  lossApart := .nil

variable {q : Rsq}

/-- A record is appended while a slot is free. -/
theorem append (h : QueueSound q) (r : FrameRecord) (hlen : q.records.length < 8) :
    QueueSound { q with records := q.records ++ [.frame r] } where
  atMostEight := by simp; omega
  pendingOnlyWhenFull := fun hp => by have := h.pendingOnlyWhenFull hp; omega
  pendingRange := h.pendingRange
  lostRange := fun n hn => h.lostRange n (by simpa using hn)
  lossApart := List.isChain_append.2 ⟨h.lossApart, .singleton _, by simp [QueueRecord.isLoss]⟩

/-- A record is lost while all slots are full. -/
theorem overrun (h : QueueSound q) (hlen : ¬ q.records.length < 8) :
    QueueSound { q with pendingLoss := min 255 (q.pendingLoss + 1) } where
  atMostEight := h.atMostEight
  pendingOnlyWhenFull := fun _ => le_antisymm h.atMostEight (not_lt.1 hlen)
  pendingRange := Nat.min_le_left ..
  lostRange := h.lostRange
  lossApart := h.lossApart

/-- A LOSS record of at least one frame takes the place at the tail that the losses pending ask for. -/
theorem placeLoss (front : List QueueRecord) (n : Nat) (hlen : front.length ≤ 7) (hn : 1 ≤ n ∧ n ≤ 255)
    (hfront : ∀ n, .loss n ∈ front → 1 ≤ n ∧ n ≤ 255)
    (hchain : front.IsChain (fun a b => a.isLoss = true → b.isLoss = false))
    (hlast : ∀ r, front.getLast? = some r → r.isLoss = false) :
    QueueSound { records := front ++ [.loss n], pendingLoss := 0 } where
  atMostEight := by simp; omega
  pendingOnlyWhenFull := fun hp => absurd rfl hp
  pendingRange := Nat.zero_le _
  lostRange := fun m hm => by
    rcases List.mem_append.1 hm with hm | hm
    · exact hfront m hm
    · obtain rfl : m = n := by simpa using hm
      exact hn
  lossApart := List.isChain_append.2 ⟨hchain, .singleton _, fun a ha b hb hloss => by simp [hlast a ha] at hloss⟩

theorem removeHead (h : QueueSound q) : QueueSound q.removeHead := by
  unfold Rsq.removeHead
  split
  · exact h
  · rename_i r rest hq
    have hlen : rest.length ≤ 7 := by have := h.atMostEight; simp [hq] at this; omega
    have hrest : ∀ n, .loss n ∈ rest → 1 ≤ n ∧ n ≤ 255 := fun n hn => h.lostRange n (by simp [hq, hn])
    have hchain : rest.IsChain (fun a b => a.isLoss = true → b.isLoss = false) := by
      have := h.lossApart
      rw [hq] at this
      exact this.tail
    have hp := h.pendingRange
    split
    · rename_i hp0
      exact
        { atMostEight := by simp; omega
          pendingOnlyWhenFull := fun hx => absurd hp0 hx
          pendingRange := hp
          lostRange := hrest
          lossApart := hchain }
    · split
      · rename_i hp0 n hlast
        obtain ⟨front, rfl⟩ := List.getLast?_eq_some_iff.1 hlast
        obtain ⟨hn1, hn2⟩ := hrest n (by simp)
        obtain ⟨hfront, -, hsep⟩ := List.isChain_append.1 hchain
        rw [List.dropLast_concat]
        refine placeLoss front _ (by simp at hlen; omega) (by omega) (fun m hm => hrest m (by simp [hm])) hfront fun r hr => ?_
        by_contra hl
        have := hsep r hr (.loss n) rfl (by simpa using hl)
        simp [QueueRecord.isLoss] at this
      · rename_i hp0 f hlast
        exact placeLoss rest _ hlen (by omega) hrest hchain fun r hr => by
          rw [hlast] at hr
          cases hr
          rfl
      · rename_i hp0 hlast
        exact placeLoss rest _ hlen (by omega) hrest hchain fun r hr => by rw [hlast] at hr; cases hr

theorem handRecord {s : State} (h : QueueSound s.rsq) (r : FrameRecord) : QueueSound (s.handRecord r).rsq := by
  unfold State.handRecord
  split
  · exact h
  · split
    · rename_i hlen
      exact h.append r hlen
    · rename_i hlen
      unfold State.overrun
      rw [State.fire_rsq]
      exact h.overrun hlen

end QueueSound

namespace State

@[simp] theorem loseArbitration_rsq (s : State) (k : FrameKind) : (s.loseArbitration k).rsq = s.rsq := by
  unfold loseArbitration
  dsimp only
  split <;> simp [setCounters, releaseSdl]

@[simp] theorem meetFault_rsq (s : State) (k : FrameKind) : (s.meetFault k).rsq = s.rsq := by
  unfold meetFault
  dsimp only
  split <;> simp [setCounters, releaseSdl]

@[simp] theorem stopRun_rsq (s : State) : s.stopRun.rsq = s.rsq := by
  unfold stopRun
  (repeat' split) <;> simp

end State

theorem QueueSound.move {s t : State} (m : LinkMove s t) (h : QueueSound s.rsq) : QueueSound t.rsq := by
  cases m with
  | requests m => rw [m.rsq]; exact h
  | dropsHead => exact h.removeHead
  | takesPass => split <;> exact h
  | resets => exact .atReset
  | handsRecord r => exact h.handRecord r
  | sends good => simpa using h
  | loses a => simpa using h
  | faults a => simpa using h
  | repeats => simpa [State.nextCheck] using h
  | startsRun => simpa [State.beginRun] using h
  | stopsRun => simpa using h
  | completesLeave => exact .atReset
  | takesNotice | receives | counts | captures | begins | leaves => exact h

/-! ### The counts of the pending set -/

/-- The counts that a stay in the set may have (R20, R25, R27, R29). -/
def PendEntry.SoundFor (k : FrameKind) (e : PendEntry) : Prop := e.lost ≤ 16 ∧ (k ≠ .check → e.lost ≤ 15) ∧ e.fault ≤ 3

theorem PendEntry.soundFor_zero (k : FrameKind) (e : PendEntry) (hl : e.lost = 0) (hf : e.fault = 0) : e.SoundFor k := by
  simp [PendEntry.SoundFor, hl, hf]

theorem countsSound_iff (p : PendingSet) : CountsSound p ↔ ∀ k e, p.get k = some e → e.SoundFor k :=
  ⟨fun h k e he => ⟨(h.lost k e he).1, (h.lost k e he).2, h.fault k e he⟩,
   fun h => ⟨fun k e he => ⟨(h k e he).1, (h k e he).2.1⟩, fun k e he => (h k e he).2.2⟩⟩

namespace CountsSound

theorem empty : CountsSound .empty := (countsSound_iff _).2 (by simp)

theorem put {p : PendingSet} (h : CountsSound p) (k : FrameKind) (e : Option PendEntry)
    (he : ∀ x, e = some x → x.SoundFor k) : CountsSound (p.put k e) := by
  rw [countsSound_iff] at h ⊢
  intro j x hx
  by_cases hjk : j = k
  · subst hjk
    rw [PendingSet.get_put_same] at hx
    exact he x hx
  · rw [PendingSet.get_put_other _ _ _ _ hjk] at hx
    exact h j x hx

theorem put_none {p : PendingSet} (h : CountsSound p) (k : FrameKind) : CountsSound (p.put k none) :=
  h.put k none fun _ hx => nomatch hx

theorem put_fresh {p : PendingSet} (h : CountsSound p) (k : FrameKind) : CountsSound (p.put k (some PendingSet.fresh)) :=
  h.put k _ fun x hx => by cases hx; exact PendEntry.soundFor_zero _ _ rfl rfl

theorem requests {s t : State} (h : CountsSound s.ltx.pend) (m : RequestsOnly s t) : CountsSound t.ltx.pend := by
  rw [countsSound_iff] at h ⊢
  intro k e' he
  rcases m.pend k e' he with ⟨e, hs, hl, hf⟩ | ⟨hl, hf, -⟩
  · have := h k e hs
    simpa [PendEntry.SoundFor, hl, hf] using this
  · exact PendEntry.soundFor_zero k e' hl hf

variable {s : State}

theorem request (h : CountsSound s.ltx.pend) (k : FrameKind) : CountsSound (s.request k).ltx.pend := by
  unfold State.request
  split
  · split
    · exact h.put_fresh k
    · rename_i e he
      split
      · exact h.put k _ fun x hx => by
          cases hx
          exact (countsSound_iff _).1 h k e he
      · exact h
  · exact h

theorem attemptFailed (h : CountsSound s.ltx.pend) (k : FrameKind) (raise : PendEntry → PendEntry)
    (hr : ∀ e, e.SoundFor k → (raise e).lost ≤ 16 ∧ (raise e).fault ≤ 4 ∧ (k = .check → (raise e).fault ≤ 3)) :
    CountsSound (s.attemptFailed k raise).ltx.pend := by
  unfold State.attemptFailed
  split
  · split <;> exact h
  · rename_i e he
    split
    · exact h.put_none .intent
    · split
      · exact h.put_none k
      · rename_i hlim
        refine h.put k _ fun x hx => ?_
        cases hx
        obtain ⟨h1, h2, h3⟩ := hr e ((countsSound_iff _).1 h k e he)
        by_cases hk : k = .check
        · exact ⟨h1, fun hn => absurd hk hn, h3 hk⟩
        · have : (raise e).lost < 16 ∧ (raise e).fault < 4 := by simpa [hk] using hlim
          exact ⟨h1, fun _ => by omega, by omega⟩

theorem afterCheck (h : CountsSound s.ltx.pend) (passed : Bool) : CountsSound (s.afterCheck passed).ltx.pend := by
  unfold State.afterCheck
  split
  · exact h.put_none .check
  · split
    · split
      · exact h.put_none .check
      · exact empty
    · split
      · exact empty
      · split
        · exact h.put_none .check
        · exact empty

theorem checkFails (h : CountsSound s.ltx.pend) : CountsSound s.checkFails.ltx.pend :=
  afterCheck (by simpa using h) false

theorem attemptSent (h : CountsSound s.ltx.pend) (good : Bool) : CountsSound (s.attemptSent good).ltx.pend := by
  unfold State.attemptSent
  split
  · exact h
  · rename_i a ha
    dsimp only
    split
    · split
      · exact afterCheck (by exact h) true
      · exact checkFails (by exact h)
    · have settled : CountsSound ((s.setLtx { s.ltx with attempt := none }).sentSettlesIntent a).ltx.pend := by
        unfold State.sentSettlesIntent
        split <;> exact h
      refine CountsSound.requests ?_ ((RequestsOnly.giveLtx _ (.sent a.kind) (by simp)).trans (.sentRestartsIsolation _))
      unfold State.sentLeavesSet
      split
      · exact settled
      · refine settled.put a.kind _ fun x hx => ?_
        split at hx
        · cases hx
          exact PendEntry.soundFor_zero _ _ rfl rfl
        · cases hx

theorem loseArbitration (h : CountsSound s.ltx.pend) (k : FrameKind) : CountsSound (s.loseArbitration k).ltx.pend := by
  unfold State.loseArbitration
  dsimp only
  split
  · exact empty
  · refine attemptFailed (by exact h) k _ fun e he => ?_
    obtain ⟨-, -, hf⟩ := he
    exact ⟨Nat.min_le_left .., Nat.le_succ_of_le hf, fun _ => hf⟩

theorem meetFault (h : CountsSound s.ltx.pend) (k : FrameKind) : CountsSound (s.meetFault k).ltx.pend := by
  unfold State.meetFault
  dsimp only
  split
  · exact checkFails (by rw [State.fire_ltx]; exact h)
  · rename_i hk
    refine attemptFailed (by rw [State.fire_ltx]; exact h) k _ fun e he => ?_
    exact ⟨he.1, Nat.min_le_left .., fun hc => absurd hc hk⟩

theorem stopRun (h : CountsSound s.ltx.pend) : CountsSound s.stopRun.ltx.pend := by
  unfold State.stopRun
  split
  · exact h
  · split
    · exact empty
    · split
      · exact h
      · exact empty
    · exact h

theorem move {s t : State} (m : LinkMove s t) (h : CountsSound s.ltx.pend) : CountsSound t.ltx.pend := by
  cases m with
  | requests m => exact h.requests m
  | takesPass =>
    split
    · exact empty
    · exact h
  | resets => exact empty
  | handsRecord r => simpa using h
  | sends good => exact h.attemptSent good
  | loses a => exact h.loseArbitration a.kind
  | faults a => exact h.meetFault a.kind
  | repeats => exact CountsSound.request (by exact h) .check
  | startsRun => exact CountsSound.request (by exact h) .check
  | stopsRun => exact h.stopRun
  | leaves => exact empty.put_fresh .leave
  | completesLeave => exact empty
  | dropsHead | takesNotice | receives | counts | captures | begins => exact h

end CountsSound

end Sys2Proof.Machine
end

section
/-! ## Every step keeps the widths (O56)

`Fits` is `WidthsKept` unit by unit, with the ranges of the configuration record beside it. -/

namespace Sys2Proof.Machine

/-! ### Bytes and fields -/

theorem byteAt_le (bs : List Byte) (k : Nat) : byteAt bs k ≤ 255 := by
  have := (bs.getD k 0).isLt
  unfold byteAt
  omega

theorem wordAt_le (bs : List Byte) (k : Nat) : wordAt bs k ≤ 65535 := by
  have := byteAt_le bs k
  have := byteAt_le bs (k + 1)
  unfold wordAt
  omega

theorem bitsOf_lt (n lo len : Nat) : bitsOf n lo len < 2 ^ len := Nat.mod_lt _ (Nat.two_pow_pos len)

theorem frameSender_le (bs : List Byte) : frameSender bs ≤ 31 := by
  have := bitsOf_lt (frameByte bs 2) 0 5
  unfold frameSender
  omega

theorem sampledIndex_le (p : Pins) : State.sampledIndex p ≤ 7 := by
  have := p.psel0.toNat_le
  have := p.psel1.toNat_le
  have := p.psel2.toNat_le
  unfold State.sampledIndex
  omega

/-- The decoded fields of a GOOD frame fit their widths. -/
theorem decodeFields_fits (k : FrameKind) (bs : List Byte) (d : Decoded) (h : decodeFields k bs = some d) : d.fits := by
  cases k with
  | announce =>
    simp only [decodeFields, decodeAnnounce] at h
    split at h
    · cases h
    · split at h
      · rename_i hr
        cases h
        obtain ⟨h1, h2, h3, -⟩ := hr
        have := bitsOf_lt (frameByte bs 5) 3 3
        refine ⟨by dsimp only; omega, h1, h2, wordAt_le _ _, fun n x hx => ?_⟩
        simp only [announceOpen, Option.ite_none_right_eq_some, Option.some.injEq, Prod.mk.injEq] at hx
        obtain ⟨-, rfl, rfl⟩ := hx
        exact ⟨byteAt_le _ _, h3⟩
      · cases h
  | intent =>
    simp only [decodeFields, decodeIntent, Option.ite_none_right_eq_some, Option.some.injEq] at h
    obtain ⟨⟨h1, h2, h3, -⟩, rfl⟩ := h
    exact ⟨byteAt_le _ _, h1, h2, h3⟩
  | settle =>
    simp only [decodeFields, decodeSettle] at h
    split at h
    · cases h
    · split at h
      · rename_i hr
        cases h
        exact ⟨byteAt_le _ _, hr.1, hr.2.1⟩
      · cases h
  | leave => cases h; trivial
  | check => cases h; trivial

theorem classify_fits (bs : List Byte) (d : Decoded) (h : classify bs = .good d) : d.fits := by
  unfold classify at h
  (repeat' split at h) <;> cases h
  rename_i hrules
  unfold frameRules at hrules
  split at hrules
  · cases hrules
  · split at hrules
    · exact decodeFields_fits _ _ _ hrules
    · cases hrules

theorem recordOf_fits (bs : List Byte) (own : Bool) (n : Nat) (c : Content) (hn : n ≤ 25)
    (hc : ∀ mm d, c = .good mm d → d.fits) : (QueueRecord.frame (recordOf bs own n c)).fits := by
  unfold recordOf
  split
  · exact ⟨hn, by simp, hc⟩
  · refine ⟨hn, fun x hx => ?_, hc⟩
    cases hx
    exact frameSender_le bs

/-! ### The units -/

/-- The eight counters fit (R184). -/
structure Counters.Fits (c : Counters) : Prop where
  good : c.good ≤ 65535
  error : c.error ≤ 65535
  lost : c.lost ≤ 65535
  mismatch : c.mismatch ≤ 65535
  lostArb : c.lostArb ≤ 65535
  txFault : c.txFault ≤ 65535
  dropped : c.dropped ≤ 65535
  trips : c.trips ≤ 65535

/-- A configuration record as CONFIGURE takes it (R176). -/
structure ConfigRecord.Fits (c : ConfigRecord) : Prop where
  inRange : c.inRange = true
  budgets : ∀ b ∈ c.budgets, b ≤ 65535
  pattern : ∀ w ∈ c.pattern, w ≤ 65535

structure Capture.Fits (c : Capture) : Prop where
  length : c.slots.length = 8
  slots : ∀ w, some w ∈ c.slots → w ≤ 65535
  index : ∀ k, c.index = some k → k ≤ 7

structure View.Fits (v : View) : Prop where
  peers : ∀ p ∈ v.peers, p.fits
  intents : ∀ e ∈ v.intents, e.fits
  reference : ∀ x, v.reference = some x → x ≤ 31
  settlement : ∀ p, v.lastSettlement = some p → p.fits

structure Snapshot.Fits (b : Snapshot) : Prop where
  own : ∀ o, b.own = some o → o.stationId ≤ 31 ∧ o.floor ≤ 4095 ∧ o.context.fits
  peers : ∀ p ∈ b.peers, p.fits
  intents : ∀ e ∈ b.intents, e.fits
  settlement : ∀ p, b.settlement = some p → p.fits
  generation : b.generation ≤ 255

structure Pfu.Fits (p : Pfu) : Prop where
  table : ∀ t, p.table = some t → ∀ b ∈ t, b ≤ 65535
  budget : p.budget ≤ 65535
  profile : p.profile ≤ 7
  age : p.age ≤ ageMax

/-- `WidthsKept`, unit by unit, with the ranges of the configuration record. -/
structure Fits (s : State) : Prop where
  counters : s.lport.counters.Fits
  config : ∀ c, s.lport.config = some c → c.Fits
  digest : ∀ d, s.lport.digest = some d → d ≤ 65535
  lineCount : ∀ c, s.lrx.lineCount = some c → c ≤ 65535
  records : ∀ r ∈ s.rsq.records, r.fits
  pendingLoss : s.rsq.pendingLoss ≤ 255
  failCounter : s.ltx.check.failCounter ≤ 255
  capture : s.ltx.capture.Fits
  own : s.own.fits
  view : s.view.Fits
  snap : s.snap.Fits
  pfu : s.pfu.Fits
  effRef : s.oc.effRef ≤ 4095
  grace : s.cmon.grace ≤ 4095
  consecutive : s.cmon.consecutive ≤ 255
  flags : s.au.flags.toNat < 2048

theorem fits_iff (s : State) :
    Fits s ↔ WidthsKept s ∧ ∀ c, s.lport.config = some c → c.inRange = true where
  mp h :=
    ⟨{ h.counters, h.snap with
        budgets := fun c hc => ⟨(h.config c hc).budgets, (h.config c hc).pattern⟩
        digest := h.digest
        lineCount := h.lineCount
        records := h.records
        pendingLoss := h.pendingLoss
        failCounter := h.failCounter
        captureSlots := ⟨h.capture.length, h.capture.slots⟩
        captureIndex := h.capture.index
        own := h.own
        peers := h.view.peers
        intents := h.view.intents
        reference := h.view.reference
        settlement := h.view.settlement
        snapOwn := h.snap.own
        snapPeers := h.snap.peers
        snapIntents := h.snap.intents
        snapSettlement := h.snap.settlement
        table := h.pfu.table
        budget := h.pfu.budget
        profile := h.pfu.profile
        age := h.pfu.age
        effRef := h.effRef
        grace := h.grace
        consecutive := h.consecutive
        flags := h.flags }, fun c hc => (h.config c hc).inRange⟩
  mpr h :=
    let w := h.1
    { counters := { w with }
      config := fun c hc => ⟨h.2 c hc, (w.budgets c hc).1, (w.budgets c hc).2⟩
      digest := w.digest
      lineCount := w.lineCount
      records := w.records
      pendingLoss := w.pendingLoss
      failCounter := w.failCounter
      capture := ⟨w.captureSlots.1, w.captureSlots.2, w.captureIndex⟩
      own := w.own
      view := { w with }
      snap := ⟨w.snapOwn, w.snapPeers, w.snapIntents, w.snapSettlement, w.generation⟩
      pfu := { w with }
      effRef := w.effRef
      grace := w.grace
      consecutive := w.consecutive
      flags := w.flags }

theorem inRange_bounds (c : ConfigRecord) (h : c.inRange = true) :
    c.stationId ≤ 31 ∧ c.floor ≤ 4095 ∧ c.ceiling ≤ 4095 := by
  simp only [ConfigRecord.inRange, Bool.and_eq_true, decide_eq_true_eq] at h
  omega

namespace Fits

variable {s t : State}

/-- What reads a configured value that the ranges bound. -/
theorem readConfig_le (h : Fits s) (f : ConfigRecord → Nat) (n : Nat) (hf : ∀ c : ConfigRecord, c.inRange = true → f c ≤ n) :
    s.readConfig f ≤ n := by
  unfold State.readConfig
  cases hc : s.lport.config with
  | none => simp
  | some c => simpa using hf c (h.config c hc).inRange

theorem ownId_le (h : Fits s) : s.ownId ≤ 31 := h.readConfig_le _ _ fun c hc => (inRange_bounds c hc).1

theorem floor_le (h : Fits s) : s.floor ≤ 4095 := h.readConfig_le _ _ fun c hc => (inRange_bounds c hc).2.1

theorem ceiling_le (h : Fits s) : s.ceiling ≤ 4095 := h.readConfig_le _ _ fun c hc => (inRange_bounds c hc).2.2

/-- Each register is as it was, or fits. -/
theorem frame (h : Fits s)
    (counters : t.lport.counters = s.lport.counters ∨ t.lport.counters.Fits := by simp)
    (config : t.lport.config = s.lport.config ∨ ∀ c, t.lport.config = some c → c.Fits := by simp)
    (digest : t.lport.digest = s.lport.digest ∨ ∀ d, t.lport.digest = some d → d ≤ 65535 := by simp)
    (lineCount : t.lrx.lineCount = s.lrx.lineCount ∨ ∀ c, t.lrx.lineCount = some c → c ≤ 65535 := by simp)
    (records : t.rsq.records = s.rsq.records ∨ ∀ r ∈ t.rsq.records, r.fits := by simp)
    (pendingLoss : t.rsq.pendingLoss = s.rsq.pendingLoss ∨ t.rsq.pendingLoss ≤ 255 := by simp)
    (failCounter : t.ltx.check.failCounter = s.ltx.check.failCounter ∨ t.ltx.check.failCounter ≤ 255 := by simp)
    (capture : t.ltx.capture = s.ltx.capture ∨ t.ltx.capture.Fits := by simp)
    (own : t.own = s.own ∨ t.own.fits := by simp)
    (view : t.view = s.view ∨ t.view.Fits := by simp)
    (snap : t.snap = s.snap ∨ t.snap.Fits := by simp)
    (pfu : t.pfu = s.pfu ∨ t.pfu.Fits := by simp)
    (effRef : t.oc.effRef = s.oc.effRef ∨ t.oc.effRef ≤ 4095 := by simp)
    (grace : t.cmon.grace = s.cmon.grace ∨ t.cmon.grace ≤ 4095 := by simp)
    (consecutive : t.cmon.consecutive = s.cmon.consecutive ∨ t.cmon.consecutive ≤ 255 := by simp)
    (flags : t.au.flags = s.au.flags ∨ t.au.flags.toNat < 2048 := by simp) : Fits t where
  counters := counters.elim (fun e => e ▸ h.counters) id
  config := config.elim (fun e => e ▸ h.config) id
  digest := digest.elim (fun e => e ▸ h.digest) id
  lineCount := lineCount.elim (fun e => e ▸ h.lineCount) id
  records := records.elim (fun e => e ▸ h.records) id
  pendingLoss := pendingLoss.elim (fun e => e ▸ h.pendingLoss) id
  failCounter := failCounter.elim (fun e => e ▸ h.failCounter) id
  capture := capture.elim (fun e => e ▸ h.capture) id
  own := own.elim (fun e => e ▸ h.own) id
  view := view.elim (fun e => e ▸ h.view) id
  snap := snap.elim (fun e => e ▸ h.snap) id
  pfu := pfu.elim (fun e => e ▸ h.pfu) id
  effRef := effRef.elim (fun e => e ▸ h.effRef) id
  grace := grace.elim (fun e => e ▸ h.grace) id
  consecutive := consecutive.elim (fun e => e ▸ h.consecutive) id
  flags := flags.elim (fun e => e ▸ h.flags) id

end Fits

end Sys2Proof.Machine
end

section
/-! ## What the operations of the Claim Engine do to the widths -/

namespace Sys2Proof.Machine

theorem AlarmKind.set_toNat_lt (k : AlarmKind) : k.set.toNat < 2048 := by cases k <;> decide

theorem IntentFields.fits_getD {o : Option IntentFields} (h : ∀ f, o = some f → f.fits) (d : IntentFields) (hd : d.fits) :
    (o.getD d).fits := by
  cases o with
  | none => exact hd
  | some f => exact h f rfl

namespace Fits

variable {s : State}

/-! ### The shared operations -/

theorem setOwn (h : Fits s) (c : OwnContext) (hc : c.fits) : Fits (s.setOwn c) := h.frame (own := .inr hc)

theorem setView (h : Fits s) (v : View) (hv : v.Fits) : Fits (s.setView v) := h.frame (view := .inr hv)

theorem setPeers (h : Fits s) (ps : List Peer) (hp : ∀ p ∈ ps, p.fits) : Fits (s.setPeers ps) :=
  h.setView _ { h.view with peers := hp }

theorem setIntents (h : Fits s) (es : List Entry) (he : ∀ e ∈ es, e.fits) : Fits (s.setIntents es) :=
  h.setView _ { h.view with intents := he }

theorem request (h : Fits s) (k : FrameKind) : Fits (s.request k) :=
  h.frame (failCounter := .inl (by rw [s.request_ltx k])) (capture := .inl (by rw [s.request_ltx k]))

theorem fire (h : Fits s) (k : AlarmKind) : Fits (s.fire k) := by
  have flags : (s.fire k).au.flags = s.au.flags ∨ (s.fire k).au.flags.toNat < 2048 := by
    unfold State.fire
    split
    · exact .inl rfl
    · have : (s.au.flags ||| k.set).toNat < 2 ^ 11 := by
        rw [BitVec.toNat_or]
        exact Nat.or_lt_two_pow h.flags k.set_toNat_lt
      split <;> exact .inr this
  exact h.frame (flags := flags)

theorem giveLtx (h : Fits s) (n : LtxNotice) : Fits (s.giveLtx n) := { h with }

theorem takeLtx (h : Fits s) : Fits s.takeLtx := { h with }

theorem referenceClaim_le (h : Fits s) : s.referenceClaim ≤ 4095 := by
  unfold State.referenceClaim
  split
  · split
    · exact h.floor_le
    · exact h.own.1
  · exact Nat.zero_le _

theorem settle (h : Fits s) : Fits s.settle := by
  have grace : s.settle.cmon.grace ≤ 4095 := by
    have hg := h.grace
    have he := h.effRef
    rw [s.settle_grace]
    unfold State.graceStep
    (repeat' split) <;> (try dsimp only) <;> omega
  have consecutive : s.settle.cmon.consecutive = s.cmon.consecutive := by
    rw [← s.settle_cmon_frame]
  exact h.frame (effRef := .inr (by rw [s.settle_oc]; exact h.referenceClaim_le)) (grace := .inr grace)
    (consecutive := .inl consecutive) (flags := .inl (by rw [s.settle_au]))

theorem requestIntent (h : Fits s) : Fits s.requestIntent := by
  refine Fits.request (s := s.setLtx _) ?_ .intent
  exact { h with }

theorem recallIntent (h : Fits s) : Fits s.recallIntent := by
  unfold State.recallIntent
  split
  · exact { h with }
  · split
    · exact { h with }
    · exact h

/-! ### Opening and resolving -/

theorem intentToOpen (h : Fits s) : s.intentToOpen.fits := by
  obtain ⟨hc, ht, hm, hn, -⟩ := h.own
  have hf := h.floor_le
  unfold State.intentToOpen
  split
  · exact ⟨hn, hf, hf, Nat.zero_le _⟩
  all_goals exact ⟨hn, by dsimp only; omega, by dsimp only; omega, hc⟩

theorem openingTest (h : Fits s) : Fits s.openingTest := by
  obtain ⟨hc, ht, hm, hn, hcur, hres, hlast⟩ := h.own
  unfold State.openingTest
  split
  · refine Fits.requestIntent (h.setOwn _ ⟨hc, ht, hm, ?_, fun f hf => ?_, hres, hlast⟩)
    · exact Nat.le_of_lt_succ (Nat.mod_lt _ (by decide))
    · cases hf
      exact h.intentToOpen
  · exact h

theorem endOfCeEvent (h : Fits s) : Fits s.endOfCeEvent := h.openingTest.settle

theorem currentIntent (h : Fits s) : s.currentIntent.fits := by
  obtain ⟨-, -, -, -, hcur, -⟩ := h.own
  exact IntentFields.fits_getD hcur _ ⟨by decide, by decide, by decide, by decide⟩

theorem resolve (h : Fits s) (o : IntentOutcome) (granted : Nat) (m : Option MarginClass)
    (hg : s.own.committed + granted ≤ 4095) : Fits (s.resolve o granted m) := by
  obtain ⟨hc, ht, hm, hn, hcur, hres, hlast⟩ := h.own
  have removed : Fits (s.setIntents (removeOwnEntry s.view.intents)) :=
    h.setIntents _ fun e he => h.view.intents e ((mem_removeOwnEntry _ _).1 he).1
  refine Fits.request (Fits.setOwn removed _ ?_) .settle
  refine ⟨hg, ht, hm, hn, hcur, fun r hr => ?_, ?_⟩
  · cases hr
    exact ⟨h.currentIntent.1, by dsimp only [State.resolutionOf]; omega, hg⟩
  · dsimp only
    omega

theorem resolveWithdrawn (h : Fits s) : Fits s.resolveWithdrawn := h.resolve _ 0 _ h.own.1

theorem withdrawalCause (h : Fits s) : Fits s.withdrawalCause := by
  unfold State.withdrawalCause
  split
  · exact h
  · exact h
  · exact h
  · split
    · exact h
    · exact Fits.recallIntent (h.setOwn _ (by exact h.own))
  · exact h.resolveWithdrawn

/-- The claim moves to a value that fits. -/
theorem setCommitted (h : Fits s) (n : Nat) (hn : n ≤ 4095) : Fits (s.setOwn { s.own with committed := n }) := by
  obtain ⟨-, rest⟩ := h.own
  exact h.setOwn _ ⟨hn, rest⟩

theorem decrease (h : Fits s) : Fits s.decrease := by
  obtain ⟨-, ht, -⟩ := h.own
  have fallen := h.setCommitted (max s.own.target s.floor) (max_le ht h.floor_le)
  unfold State.decrease
  dsimp only
  split
  · exact fallen.request .announce
  · exact fallen

theorem settleToTarget (h : Fits s) : Fits s.settleToTarget := by
  unfold State.settleToTarget
  split
  · exact h.decrease
  · exact h

theorem becomeMember (h : Fits s) : Fits s.becomeMember := by
  unfold State.becomeMember
  split
  · exact h.setOwn _ h.own
  · exact h

/-- The decision: the claim and what is asked for fit together. -/
theorem decideIntent (h : Fits s) (hd : s.own.committed + s.currentIntent.delta ≤ 4095) : Fits s.decideIntent := by
  have none := h.own.1
  unfold State.decideIntent
  split
  · exact h.resolveWithdrawn
  · split
    · exact h.resolve _ 0 _ none
    · split
      · exact h.resolve _ 0 _ none
      · refine Fits.settleToTarget (Fits.becomeMember (h.resolve _ _ _ ?_))
        have : s.grantOf ≤ s.currentIntent.delta := Nat.min_le_left ..
        omega

theorem takeReadback (h : Fits s) : Fits s.takeReadback := by
  unfold State.takeReadback
  split
  · exact h.resolveWithdrawn
  · refine Fits.setOwn (h.setIntents _ fun e he => ?_) _ h.own
    rcases List.mem_append.1 he with he | he
    · exact h.view.intents e he
    · obtain ⟨hn, hd, -⟩ := h.currentIntent
      obtain rfl := List.mem_singleton.1 he
      exact ⟨h.ownId_le, hn, hd⟩

theorem openingDoubt (h : Fits s) : Fits s.openingDoubt := by
  unfold State.openingDoubt
  split
  · split
    · exact h.resolveWithdrawn
    · exact h.setOwn _ h.own
  · exact h

theorem openingSent (h : Fits s) : Fits s.openingSent := by
  unfold State.openingSent
  split
  · exact h.resolveWithdrawn
  · exact h.setOwn _ h.own

/-- The context loses its current intent. -/
theorem fits_dropCurrent {c : OwnContext} (h : c.fits) : OwnContext.fits { c with current := none } := by
  obtain ⟨hc, ht, hm, hn, -, rest⟩ := h
  exact ⟨hc, ht, hm, hn, fun f hf => (nomatch hf), rest⟩

theorem endOpening (h : Fits s) : Fits s.endOpening := h.setOwn _ (fits_dropCurrent h.own)

theorem endSettling (h : Fits s) : Fits s.endSettling := by
  unfold State.endSettling
  split <;> exact h.setOwn _ (fits_dropCurrent h.own)

theorem removeIntent (h : Fits s) : Fits s.removeIntent := by
  refine Fits.setOwn (h.setIntents _ fun e he => ?_) _ (fits_dropCurrent h.own)
  exact h.view.intents e ((mem_removeOwnEntry _ _).1 he).1

/-! ### Leaving, rejoining and attaching -/

theorem takeLeaveRequest (h : Fits s) : Fits s.takeLeaveRequest := by
  have left := Fits.setCommitted h.removeIntent 0 (Nat.zero_le _)
  exact { left with }

theorem takeRejoin (h : Fits s) : Fits s.takeRejoin := by
  have back := Fits.setCommitted h.removeIntent 0 (Nat.zero_le _)
  have peers := Fits.setPeers back (s.removeIntent.view.peers.map (fun p => { p with refreshed := false })) fun p hp => by
    obtain ⟨q, hq, rfl⟩ := List.mem_map.1 hp
    exact h.view.peers q hq
  exact { peers with }

theorem completeLeave (h : Fits s) : Fits s.completeLeave := by
  obtain ⟨-, ht, hm, hn, -, -, hl⟩ := h.own
  exact
    { h with
      lineCount := fun c hc => (nomatch hc)
      records := fun r hr => (nomatch hr)
      pendingLoss := Nat.zero_le _
      own := ⟨Nat.zero_le _, ht, hm, hn, fun f hf => (nomatch hf), fun r hr => (nomatch hr), hl⟩
      view := ⟨fun p hp => (nomatch hp), fun e he => (nomatch he), fun x hx => (nomatch hx), fun p hp => (nomatch hp)⟩
      consecutive := Nat.zero_le _ }

theorem enterListening (h : Fits s) : Fits s.enterListening := by
  have entered := Fits.setCommitted (h.setOwn _ (fits_dropCurrent h.own)) 0 (Nat.zero_le _)
  exact { entered with }

theorem fallToFloor (h : Fits s) : Fits s.fallToFloor := by
  unfold State.fallToFloor
  split
  · exact (h.setCommitted _ h.floor_le).request .announce
  · exact h

theorem takeIsolated (h : Fits s) : Fits s.takeIsolated := by
  unfold State.takeIsolated
  split
  · exact Fits.fallToFloor (Fits.fire (h.withdrawalCause.setOwn _ (by exact h.withdrawalCause.own)) .isolated)
  · exact h

theorem takeIsolationEnd (h : Fits s) : Fits s.takeIsolationEnd := by
  unfold State.takeIsolationEnd
  split
  · exact h.setOwn _ h.own
  · exact h

/-! ### The change of profile -/

theorem unrefresh (h : Fits s) : Fits s.unrefresh := h.setPeers _ fun p hp => by
  obtain ⟨q, hq, rfl⟩ := List.mem_map.1 hp
  split <;> exact h.view.peers q hq

theorem unrefreshIf (h : Fits s) (b : Bool) : Fits (s.unrefreshIf b) := by
  unfold State.unrefreshIf
  split
  · exact h.unrefresh
  · exact h

/-- The shed never raises the claim above its floor (R131). -/
theorem shedClaim_le (h : Fits s) (b : Nat) (hb : b < s.viewTotal) : s.shedClaim b ≤ 4095 := by
  refine max_le h.floor_le ?_
  have ratio : 32768 * b / s.viewTotal ≤ 32768 :=
    Nat.div_le_of_le_mul (by rw [Nat.mul_comm]; exact Nat.mul_le_mul_right _ hb.le)
  calc s.own.committed * (32768 * b / s.viewTotal) / 32768
      ≤ s.own.committed * 32768 / 32768 := Nat.div_le_div_right (Nat.mul_le_mul_left _ ratio)
    _ = s.own.committed := Nat.mul_div_cancel _ (by decide)
    _ ≤ 4095 := h.own.1

theorem proportionalShed (h : Fits s) (b : Nat) : Fits (s.proportionalShed b) := by
  unfold State.proportionalShed
  split
  · rename_i hb
    have cut := h.setCommitted _ (h.shedClaim_le b hb.2)
    dsimp only
    split
    · split
      · exact (cut.request .announce).withdrawalCause
      · exact cut.request .announce
    · exact cut
  · exact h

theorem withdrawWindow (h : Fits s) : Fits s.withdrawWindow := by
  unfold State.withdrawWindow
  split
  · exact h.resolveWithdrawn
  · exact h

theorem deficitCheck (h : Fits s) (b : Nat) : Fits (s.deficitCheck b) := by
  unfold State.deficitCheck
  split
  · exact h.fire _
  · exact h

theorem applyProfileChange (h : Fits s) (b : Nat) : Fits (s.applyProfileChange b) :=
  ((h.unrefresh.withdrawWindow).proportionalShed b).deficitCheck b

/-! ### The records -/

theorem mem_putPeer {p q : Peer} {ps : List Peer} (h : q ∈ putPeer p ps) : q = p ∨ q ∈ ps := by
  induction ps with
  | nil => simpa [putPeer] using h
  | cons r rs ih =>
    unfold putPeer at h
    split at h
    · simpa using h
    · split at h
      · rcases List.mem_cons.1 h with rfl | h
        · exact .inl rfl
        · exact .inr (List.mem_cons_of_mem _ h)
      · rcases List.mem_cons.1 h with rfl | h
        · exact .inr (List.mem_cons_self ..)
        · exact (ih h).imp_right (List.mem_cons_of_mem _)

theorem heardPeer_fits {x : Nat} {ps : List Peer} (hx : x ≤ 31) (hp : ∀ p ∈ ps, p.fits) : (heardPeer x ps).fits := by
  unfold heardPeer
  split
  · exact ⟨hx, Nat.zero_le _, by simp [newPeer], by simp [newPeer]⟩
  · rename_i p hfind
    exact hp p (List.mem_of_find?_eq_some hfind)

theorem updatePeer (h : Fits s) (x : Nat) (hx : x ≤ 31) (apply : Peer → Peer) (ha : ∀ p : Peer, p.fits → (apply p).fits) :
    Fits (s.updatePeer x apply) := h.setPeers _ fun q hq => by
  rcases mem_putPeer hq with rfl | hq
  · exact ha _ (heardPeer_fits hx h.view.peers)
  · exact h.view.peers q hq

theorem recomputeReference (h : Fits s) : Fits s.recomputeReference :=
  h.setView _
    { h.view with
      reference := fun x hx => by
        obtain ⟨p, hp, rfl⟩ := Option.map_eq_some_iff.1 hx
        exact (h.view.peers p (List.mem_of_find?_eq_some hp)).1 }

theorem reconcile_fits {x : Nat} {o : Option (Nat × Nat)} {es : List Entry} (hx : x ≤ 31)
    (ho : ∀ n d, o = some (n, d) → n ≤ 255 ∧ d ≤ 4095) (he : ∀ e ∈ es, e.fits) : ∀ e ∈ reconcile x o es, e.fits := by
  have removed : ∀ e ∈ removeEntry x es, e.fits := fun e hm => he e ((mem_removeEntry ..).1 hm).1
  have added (n d : Nat) (hnd : n ≤ 255 ∧ d ≤ 4095) (front : List Entry) (hf : ∀ e ∈ front, e.fits) :
      ∀ e ∈ front ++ [peerEntry x n d .learned], e.fits := fun e hm => by
    rcases List.mem_append.1 hm with hm | hm
    · exact hf e hm
    · obtain rfl := List.mem_singleton.1 hm
      exact ⟨hx, hnd⟩
  unfold reconcile
  split
  · exact removed
  · rename_i n d
    split
    · exact added n d (ho n d rfl) es he
    · split
      · exact he
      · exact added n d (ho n d rfl) _ removed

theorem checkDigest (h : Fits s) (f : AnnounceFields) : Fits (s.checkDigest f) := by
  unfold State.checkDigest
  split
  · exact h
  · exact h.fire _

theorem checkProfile (h : Fits s) (f : AnnounceFields) : Fits (s.checkProfile f) := by
  unfold State.checkProfile
  split
  · exact h.fire _
  · exact h

theorem peerAnnounce (h : Fits s) (x : Nat) (hx : x ≤ 31) (mm : Bool) (f : AnnounceFields) (hf : f.fits) :
    Fits (s.peerAnnounce x mm f) := by
  obtain ⟨hprofile, hcommitted, hfloor, -, hopen⟩ := hf
  have updated := (h.unrefreshIf mm).updatePeer x hx (s.applyAnnounce f) fun p hp =>
    ⟨hp.1, hcommitted, fun y hy => by cases hy; exact hfloor, fun i hi => by cases hi; exact hprofile⟩
  have checked := (updated.checkDigest f).checkProfile f
  exact (checked.setIntents _ (reconcile_fits hx hopen checked.view.intents)).recomputeReference

theorem peerIntent (h : Fits s) (x : Nat) (hx : x ≤ 31) (mm : Bool) (f : IntentFields) (hf : f.fits) :
    Fits (s.peerIntent x mm f) := by
  obtain ⟨hn, hd, -, hb⟩ := hf
  have updated := (h.unrefreshIf mm).updatePeer x hx (fun p => { p with committed := f.committedBefore }) fun p hp =>
    ⟨hp.1, hb, hp.2.2⟩
  refine (updated.setIntents _ fun e he => ?_).recomputeReference
  rcases List.mem_append.1 he with he | he
  · exact updated.view.intents e ((mem_removeEntry ..).1 he).1
  · obtain rfl := List.mem_singleton.1 he
    exact ⟨hx, hn, hd⟩

theorem peerSettle (h : Fits s) (x : Nat) (hx : x ≤ 31) (mm : Bool) (f : SettleFields) (hf : f.fits) :
    Fits (s.peerSettle x mm f) := by
  have updated := (h.unrefreshIf mm).updatePeer x hx (fun p => { p with committed := f.committedAfter }) fun p hp =>
    ⟨hp.1, hf.2.2, hp.2.2⟩
  refine Fits.recomputeReference (updated.setView _ ?_)
  refine { updated.view with intents := fun e he => ?_, settlement := fun p hp => ?_ }
  · dsimp only at he
    split at he
    · exact updated.view.intents e ((mem_removeEntry ..).1 he).1
    · exact updated.view.intents e he
  · cases hp
    exact ⟨hx, hf⟩

theorem peerLeave (h : Fits s) (x : Nat) (mm : Bool) : Fits (s.peerLeave x mm) := by
  have heard := h.unrefreshIf mm
  refine Fits.recomputeReference (heard.setView _ ?_)
  exact
    { heard.view with
      peers := fun p hp => heard.view.peers p ((mem_removePeer ..).1 hp).1
      intents := fun e he => heard.view.intents e ((mem_removeEntry ..).1 he).1 }

theorem confirm (h : Fits s) (mm : Bool) : Fits (s.confirm mm) := by
  unfold State.confirm
  split
  · exact h.setOwn _ h.own
  · exact h

theorem ownGood (h : Fits s) (mm : Bool) (d : Decoded) : Fits (s.ownGood mm d) := by
  have heard := h.unrefreshIf mm
  unfold State.ownGood
  dsimp only
  split
  · split
    · exact heard.takeReadback
    · exact heard
  all_goals exact heard

theorem ownRecord (h : Fits s) (c : Content) : Fits (s.ownRecord c) := by
  have doubt := h.unrefresh.openingDoubt
  unfold State.ownRecord
  split
  · exact h
  · split
    · exact h.ownGood ..
    · exact h.openingDoubt
    all_goals exact doubt

theorem duplicateRecord (h : Fits s) (mm : Bool) : Fits (s.duplicateRecord mm) := by
  have fired := (h.unrefreshIf mm).fire .duplicateId
  exact fired.setView _ { fired.view with }

theorem errorRecord (h : Fits s) (fragment : Bool) : Fits (s.errorRecord fragment) := by
  unfold State.errorRecord
  split
  · exact h
  · exact h.unrefresh

theorem loseRecord (h : Fits s) (p : Peer) (hp : p ∈ s.view.peers) : Fits (s.loseRecord p) := by
  have lost := h.setPeers (putPeer { p with presence := .lost, refreshed := false } s.view.peers) fun q hq => by
    rcases mem_putPeer hq with rfl | hq
    · exact h.view.peers p hp
    · exact h.view.peers q hq
  exact (lost.setIntents _ fun e he => h.view.intents e ((mem_removeEntry ..).1 he).1).recomputeReference

theorem forgetRecord (h : Fits s) (x : Nat) : Fits (s.forgetRecord x) :=
  h.setPeers _ fun p hp => h.view.peers p ((mem_removePeer ..).1 hp).1

/-- CE removes the head: what is left, and the LOSS record that may be placed, fit. -/
theorem dropHead (h : Fits s) : Fits s.dropHead := by
  have records : (∀ r ∈ s.rsq.removeHead.records, r.fits) ∧ s.rsq.removeHead.pendingLoss ≤ 255 := by
    have hr := h.records
    have hp := h.pendingLoss
    unfold Rsq.removeHead
    split
    · exact ⟨hr, hp⟩
    · rename_i r rest hq
      have hrest : ∀ r ∈ rest, r.fits := fun x hx => hr x (by simp [hq, hx])
      have placed (front : List QueueRecord) (n : Nat) (hn : n ≤ 255) (hf : ∀ r ∈ front, r.fits) :
          ∀ r ∈ front ++ [.loss n], r.fits := fun x hx => by
        rcases List.mem_append.1 hx with hx | hx
        · exact hf x hx
        · obtain rfl := List.mem_singleton.1 hx
          exact hn
      split
      · exact ⟨hrest, hp⟩
      · split
        · exact ⟨placed _ _ (Nat.min_le_left ..) fun x hx => hrest x (List.mem_of_mem_dropLast hx), Nat.zero_le _⟩
        all_goals exact ⟨placed _ _ hp hrest, Nat.zero_le _⟩
  exact h.frame (records := .inr records.1) (pendingLoss := .inr records.2)

end Fits

end Sys2Proof.Machine
end

section
/-! ## What the other units do to the widths, and every step -/

namespace Sys2Proof.Machine

theorem leads_ite {b : Bool} {s t : State} {P : State → Prop} (ht : b = true → P t) (hs : P s) :
    Leads (if b then .next t else .next s) P := by
  split
  · rename_i hb
    exact (leads_next ..).2 (ht hb)
  · exact (leads_next ..).2 hs

theorem Counters.Fits.zero : Counters.zero.Fits := by
  constructor <;> exact Nat.zero_le _

namespace Capture.Fits

theorem empty : Capture.empty.Fits where
  length := rfl
  slots := fun w hw => by simp [Capture.empty] at hw
  index := fun k hk => nomatch hk

variable {c : Capture}

theorem freeze (h : c.Fits) (pattern : List Nat) : (c.freeze pattern).Fits := by
  unfold Capture.freeze
  split
  · exact h
  · exact
      { h with
        index := fun k hk => by
          have := List.mem_range.1 (List.mem_of_find?_eq_some hk)
          omega }

theorem restart (h : c.Fits) : c.restart.Fits := by
  unfold Capture.restart
  split
  · exact h
  · exact empty

theorem byteRead (h : c.Fits) (bs : List Byte) : (c.byteRead bs).Fits := by
  unfold Capture.byteRead
  split
  · exact h
  · split
    · exact
        { h with
          length := by rw [List.length_set]; exact h.length
          slots := fun w hw => by
            rcases List.mem_or_eq_of_mem_set hw with hw | hw
            · exact h.slots w hw
            · cases hw
              exact wordAt_le _ _ }
    · exact h

end Capture.Fits

theorem countStep_fst_le (c : Option Nat) (n : Nat) (hn : n ≤ 65535) : (countStep c n).1 ≤ 65535 := by
  unfold countStep
  split
  · exact hn
  · dsimp only
    split
    · exact hn
    · split
      · exact hn
      · dsimp only
        omega

namespace Fits

variable {s : State}

/-! ### The Link Receiver -/

theorem setLrxState (h : Fits s) (x : LrxState) : Fits (s.setLrxState x) := { h with }

theorem appended (h : s.lport.counters.Fits) (c : Content) : (s.lport.counters.appended c).Fits := by
  unfold Counters.appended
  split
  · exact { h with good := bump_le _, mismatch := bump_le _ }
  · exact { h with good := bump_le _ }
  all_goals exact { h with error := bump_le _ }

theorem handRecord (h : Fits s) (r : FrameRecord) (hr : (QueueRecord.frame r).fits) : Fits (s.handRecord r) := by
  unfold State.handRecord
  split
  · exact h
  · split
    · exact
        { h with
          counters := appended h.counters _
          records := fun x hx => by
            rcases List.mem_append.1 hx with hx | hx
            · exact h.records x hx
            · obtain rfl := List.mem_singleton.1 hx
              exact hr }
    · refine Fits.fire (s := (s.setRsq _).setCounters _) ?_ _
      exact { h with counters := { h.counters with lost := bump_le _ }, pendingLoss := Nat.min_le_left .. }

theorem discardFrame (h : Fits s) (bs : List Byte) (n : Nat) (c : Content) (hn : n ≤ 25) (hc : ∀ mm d, c ≠ .good mm d) :
    Fits (s.discardFrame bs n c) :=
  ((h.setLrxState .discard).handRecord _ (recordOf_fits _ _ _ _ hn fun mm d e => absurd e (hc mm d))).settle

theorem countFrame (h : Fits s) (c : Classified) (bs : List Byte) (x : Nat) (hx : (s.countFrame c bs).1 = some x) :
    x ≤ 65535 := by
  unfold State.countFrame at hx
  split at hx
  · split at hx
    · cases hx
      exact countStep_fst_le _ _ (wordAt_le _ _)
    · exact h.lineCount x hx
  all_goals exact h.lineCount x hx

theorem handOff (h : Fits s) (c : Classified) (bs : List Byte) : Fits (s.handOff c bs) := by
  have aligned (x : Nat) : Fits (s.alignAnnounce x) := by
    unfold State.alignAnnounce
    split
    · exact { h with }
    · exact h
  unfold State.handOff
  split
  · split
    · exact h
    · exact aligned _
  all_goals exact h

theorem seesIdle (h : Fits s) : Fits s.seesIdle := by
  rcases s.seesIdle_cases with e | e <;> rw [e]
  · exact h
  · exact h.setLrxState _

theorem sdlTwoCellsRecessive (h : Fits s) : Fits s.sdlTwoCellsRecessive := { h with }

theorem sdlIdle (h : Fits s) : Fits s.sdlIdle := by
  unfold State.sdlIdle
  split
  · exact h.sdlTwoCellsRecessive
  · exact h

theorem frameStart (h : Fits s) {t : State} (ht : s.frameStart = some t) : Fits t := by
  rcases (s.frameStart_eq_some_iff t).1 ht with ⟨-, rfl⟩ | ⟨-, -, -, rfl⟩
  · have idle := h.seesIdle
    unfold State.sdlStarted
    split
    · exact { idle with }
    · exact idle
  · exact h

/-! ### The Link Transmitter -/

theorem endRun (h : Fits s) : Fits s.endRun := { h with }

theorem afterCheck (h : Fits s) (passed : Bool) : Fits (s.afterCheck passed) := by
  unfold State.afterCheck
  split
  · exact { h with }
  · split
    · split
      · exact { h with }
      · exact h.endRun.giveLtx _
    · split
      · exact h.endRun
      · split
        · exact { h with }
        · exact h.endRun

theorem checkFails (h : Fits s) : Fits s.checkFails := by
  refine Fits.afterCheck (Fits.fire (s := s.setLtx _) ?_ _) _
  exact { h with failCounter := Nat.min_le_left .., capture := h.capture.freeze _ }

theorem sentRestartsIsolation (h : Fits s) : Fits s.sentRestartsIsolation := by
  unfold State.sentRestartsIsolation
  dsimp only
  split
  · split <;> exact { h with }
  · exact h

theorem attemptSent (h : Fits s) (good : Bool) : Fits (s.attemptSent good) := by
  unfold State.attemptSent
  split
  · exact h
  · rename_i a _
    have cleared : Fits (s.setLtx { s.ltx with attempt := none }) := { h with }
    dsimp only
    split
    · split
      · refine Fits.afterCheck (s := State.setLtx _ _) ?_ true
        exact { cleared with }
      · exact cleared.checkFails
    · have settled : Fits (State.sentSettlesIntent (s.setLtx { s.ltx with attempt := none }) a) := by
        unfold State.sentSettlesIntent
        split
        · exact { cleared with }
        · exact cleared
      refine Fits.sentRestartsIsolation (Fits.giveLtx ?_ _)
      unfold State.sentLeavesSet
      split
      · exact settled
      · exact { settled with }

theorem attemptFailed (h : Fits s) (k : FrameKind) (raise : PendEntry → PendEntry) : Fits (s.attemptFailed k raise) := by
  unfold State.attemptFailed
  split
  · split
    · exact { h with }
    · exact h
  · split
    · exact { h with }
    · split
      · exact { h with counters := { h.counters with dropped := bump_le _ } }
      · exact { h with }

theorem loseArbitration (h : Fits s) (k : FrameKind) : Fits (s.loseArbitration k) := by
  have lost : Fits (s.releaseSdl.sdlReadsDominant.setCounters
      { s.lport.counters with lostArb := bump s.lport.counters.lostArb }) :=
    { h with counters := { h.counters with lostArb := bump_le _ } }
  unfold State.loseArbitration
  dsimp only
  split
  · exact lost.endRun
  · exact lost.attemptFailed _ _

theorem meetFault (h : Fits s) (k : FrameKind) : Fits (s.meetFault k) := by
  have fault : Fits (s.releaseSdl.sdlReadsRecessive.setCounters
      { s.lport.counters with txFault := bump s.lport.counters.txFault }) :=
    { h with counters := { h.counters with txFault := bump_le _ } }
  unfold State.meetFault
  dsimp only
  split
  · exact (fault.fire .lineFault).checkFails
  · exact (fault.fire .lineFault).attemptFailed _ _

theorem beginAttempt (h : Fits s) (k : FrameKind) : Fits (s.beginAttempt k) :=
  { h with
    capture := by
      unfold State.beginAttempt
      rw [State.setLtx_ltx]
      dsimp only
      split
      · exact h.capture.restart
      · exact h.capture }

theorem beginRun (h : Fits s) (m : CheckMode) (o : CheckOwner) : Fits (s.beginRun m o) := by
  refine Fits.request (s := State.setLrx (State.setLtx _ _) _) ?_ _
  exact { h with failCounter := Nat.zero_le _, capture := .empty }

theorem stopRun (h : Fits s) : Fits s.stopRun := by
  unfold State.stopRun
  split
  · exact h
  · split
    · exact h.endRun
    · split
      · exact { h with }
      · exact h.endRun
    · exact h

/-! ### The other units -/

theorem budgetAt_le (table : Option (List Nat)) (ht : ∀ t, table = some t → ∀ b ∈ t, b ≤ 65535) (i : Nat) :
    budgetAt table i ≤ 65535 := by
  unfold budgetAt
  split
  · exact Nat.zero_le _
  · rename_i t
    rw [List.getD_eq_getElem?_getD]
    cases hb : t[i]? with
    | none => exact Nat.zero_le _
    | some b => exact ht t rfl b (List.mem_of_getElem? hb)

theorem profileSettles (h : Fits s) : Fits s.profileSettles :=
  { h with pfu := ⟨h.pfu.table, budgetAt_le _ h.pfu.table _, sampledIndex_le _, Nat.zero_le _⟩ }

theorem observeAsserted (h : Fits s) : Fits s.observeAsserted := by
  refine Fits.fire (s := State.giveSlu _ _) ?_ _
  exact { h with }

theorem observeReleased (h : Fits s) : Fits s.observeReleased := by
  unfold State.observeReleased
  split <;> exact { h with }

theorem observesDue (h : Fits s) : Fits s.observesDue := by
  rcases s.observesDue_cases with ⟨-, e⟩ | ⟨-, -, e⟩ | ⟨-, -, e⟩ <;> rw [e]
  · exact h
  · exact h.observeAsserted.settle
  · exact h.observeReleased.settle

theorem countTrip (h : Fits s) : Fits s.countTrip := by
  have fired := h.fire .trip
  exact
    { fired with
      counters := { fired.counters with trips := bump_le _ }
      consecutive := Nat.min_le_left .. }

theorem latchTrip (h : Fits s) : Fits s.latchTrip := by
  refine Fits.fire (s := s.setCmon _) ?_ _
  exact { h with }

theorem actOnTrip (h : Fits s) : Fits s.actOnTrip := by
  have holds (m : TripMode) : Fits (s.holdTrip m) := { h with }
  unfold State.actOnTrip
  split
  · exact h
  · exact h.latchTrip
  all_goals
    split
    · exact h.latchTrip.fire _
    · exact holds _

/-! ### The Local Port -/

theorem respond (h : Fits s) (code : RespCode) (request : Byte) (data : List Byte) : Fits (s.respond code request data) :=
  { h with }

theorem answer (h : Fits s) (request : Byte) (enough taken inRange : Bool) (carry : State → Carried)
    (carried : inRange = true → ∀ t, t = s.endTransaction → Fits t → Fits (carry t).state) :
    Fits (s.answer request enough taken inRange carry) := by
  have ended : Fits s.endTransaction := { h with }
  exact s.answer_induction Fits request enough taken inRange carry h (fun code => ended.respond code _ _)
    fun _ _ _ hr => (carried hr _ rfl ended).respond _ _ _

theorem wordsAt_le (ps : List Byte) (k n : Nat) : ∀ w ∈ wordsAt ps k n, w ≤ 65535 := fun w hw => by
  obtain ⟨i, -, rfl⟩ := List.mem_map.1 hw
  exact wordAt_le _ _

theorem storeConfig (h : Fits s) (ps : List Byte) (hr : (parseConfig ps).inRange = true) :
    Fits (s.storeConfig (parseConfig ps)) := by
  have budgets : ∀ b ∈ (parseConfig ps).budgets, b ≤ 65535 := wordsAt_le ps 8 8
  have table : ∀ t, some (parseConfig ps).budgets = some t → ∀ b ∈ t, b ≤ 65535 := fun t ht => by cases ht; exact budgets
  obtain ⟨hc, ht, rest⟩ := h.own
  refine Fits.settle (s := State.setOwn _ _) ?_
  exact
    { h with
      config := fun c hc => by cases hc; exact ⟨hr, budgets, wordsAt_le ps 36 8⟩
      digest := fun d hd => by
        cases hd
        exact Nat.le_of_lt_succ (crc _).isLt
      own := ⟨hc, (Nat.min_le_left ..).trans ht, rest⟩
      pfu := ⟨table, budgetAt_le _ table _, h.pfu.profile, h.pfu.age⟩ }

theorem applyTarget (h : Fits s) (target minStep : Nat) (ht : target ≤ 4095) (hm : minStep ≤ 4095) :
    Fits (s.applyTarget target minStep) := by
  obtain ⟨hc, -, -, rest⟩ := h.own
  have moved : Fits (s.setOwn { s.own with target := target, minStep := minStep }) := h.setOwn _ ⟨hc, ht, hm, rest⟩
  unfold State.applyTarget
  dsimp only
  split
  · split
    · exact moved.withdrawalCause.decrease
    · exact moved.withdrawalCause
  · exact moved

theorem auNoticesTaken (h : Fits s) (cleared : Word16) : Fits (s.auNoticesTaken cleared) := by
  refine s.auNoticesTaken_induction cleared Fits h fun t ht n => ?_
  have taken : Fits t.takeAu := { ht with }
  cases n with
  | forceAlarm k => exact taken.withdrawalCause.endOfCeEvent
  | cleared => exact taken.endOfCeEvent

theorem clearNamed (h : Fits s) (named : Word16) : Fits (s.clearNamed named) := by
  have cleared : (s.au.flags &&& ~~~(s.clearedSet named)).toNat < 2048 := by
    rw [BitVec.toNat_and]
    exact Nat.lt_of_le_of_lt Nat.and_le_left h.flags
  refine Fits.settle ?_
  dsimp only
  split <;> exact { h with flags := cleared }

theorem snapshotTaken (h : Fits s) : Fits s.snapshotTaken :=
  { h with
    snap := ⟨fun o ho => by cases ho; exact ⟨h.ownId_le, h.floor_le, h.own⟩, h.view.peers, h.view.intents, h.view.settlement,
      Nat.le_of_lt_succ (Nat.mod_lt _ (by decide))⟩ }

/-! ### The full reset and the passing of time -/

theorem inFullReset (pins : Pins) (profile n : Nat) (q : List Instr) (hp : profile ≤ 7) :
    Fits (.inFullReset pins profile n q) where
  counters := .zero
  config := fun c hc => nomatch hc
  digest := fun d hd => nomatch hd
  lineCount := fun c hc => nomatch hc
  records := fun r hr => nomatch hr
  pendingLoss := Nat.zero_le _
  failCounter := Nat.zero_le _
  capture := .empty
  own := ⟨Nat.zero_le _, Nat.zero_le _, (by decide : 1 ≤ 4095), Nat.zero_le _, fun f hf => (nomatch hf), fun r hr => (nomatch hr),
    Nat.zero_le _⟩
  view := ⟨fun p hp => (nomatch hp), fun e he => (nomatch he), fun x hx => (nomatch hx), fun p hp => (nomatch hp)⟩
  snap := ⟨fun o ho => (nomatch ho), fun p hp => (nomatch hp), fun e he => (nomatch he), fun p hp => (nomatch hp), Nat.zero_le _⟩
  pfu := ⟨fun t ht => (nomatch ht), Nat.zero_le _, hp, Nat.zero_le _⟩
  effRef := Nat.zero_le _
  grace := Nat.zero_le _
  consecutive := Nat.zero_le _
  flags := (by decide : 0 < 2048)

theorem tick (h : Fits s) : Fits s.tick := by
  unfold State.tick
  split
  · exact h
  · have lineCount : s.tickLrx.lineCount = s.lrx.lineCount := by
      unfold State.tickLrx
      split <;> rfl
    have peers : ∀ p ∈ s.tickView.peers, p.fits := fun p hp => by
      obtain ⟨q, hq, rfl⟩ := List.mem_map.1 hp
      exact h.view.peers q hq
    exact
      { h with
        lineCount := by
          intro c hc
          exact h.lineCount c (lineCount ▸ hc)
        view := { h.view with peers := peers }
        pfu := ⟨h.pfu.table, h.pfu.budget, h.pfu.profile, Nat.min_le_left ..⟩ }

end Fits

end Sys2Proof.Machine
end

section
/-! ## Every command keeps the widths, and the queue and the counts with them (O56) -/

namespace Sys2Proof.Machine

/-- What CE reads at the head of the queue fits its widths. -/
def Head.Fits : Head → Prop
  | .peerAnnounce x _ f => x ≤ 31 ∧ f.fits
  | .peerIntent x _ f => x ≤ 31 ∧ f.fits
  | .peerSettle x _ f => x ≤ 31 ∧ f.fits
  | .nothing | .peerLeave .. | .own _ | .duplicate _ | .error _ | .loss | .check => True

theorem headOfPeer_fits (own x : Nat) (mm : Bool) (d : Decoded) (hx : x ≤ 31) (hd : d.fits) :
    (headOfPeer own x mm d).Fits := by
  cases d with
  | announce f =>
    dsimp only [headOfPeer]
    split
    · trivial
    · exact ⟨hx, hd⟩
  | intent f =>
    dsimp only [headOfPeer]
    split
    · trivial
    · exact ⟨hx, hd⟩
  | settle f =>
    dsimp only [headOfPeer]
    split
    · trivial
    · exact ⟨hx, hd⟩
  | leave =>
    dsimp only [headOfPeer]
    split <;> trivial
  | check => trivial

theorem headOfFrame_fits (own : Nat) (r : FrameRecord) (hr : (QueueRecord.frame r).fits) : (headOfFrame own r).Fits := by
  obtain ⟨-, hsender, hcontent⟩ := hr
  unfold headOfFrame
  split
  · rename_i mm d hc
    split
    · trivial
    · split
      · trivial
      · refine headOfPeer_fits _ _ _ _ ?_ (hcontent mm d hc)
        cases hs : r.sender with
        | none => exact Nat.zero_le _
        | some x => exact hsender x hs
  all_goals split <;> trivial

namespace Fits

variable {s : State}

theorem head (h : Fits s) : s.head.Fits := by
  unfold State.head
  split
  · trivial
  · split
    · trivial
    · trivial
    · rename_i r rest hq
      exact headOfFrame_fits _ _ (h.records _ (by simp [hq]))

theorem ite {p : Prop} [Decidable p] {s t : State} (ht : Fits t) (hs : Fits s) : Fits (if p then t else s) := by
  split
  · exact ht
  · exact hs

theorem leads_if {t : State} {b : Bool} (h : Fits s) (ht : Fits t) : Leads (if b then .next t else .next s) Fits :=
  leads_ite (fun _ => ht) h

/-- A request whose carrying out keeps the widths does so with its answer. -/
theorem leads_answer (h : Fits s) (request : Byte) (enough taken inRange : Bool) (carry : State → Carried)
    (carried : inRange = true → ∀ t, t = s.endTransaction → Fits t → Fits (carry t).state) :
    Leads (.next (s.answer request enough taken inRange carry)) Fits :=
  (leads_next ..).2 (h.answer request enough taken inRange carry carried)

/-! ### The Link Receiver -/

theorem frameEnds (h : Fits s) (bs : List Byte) (hb : bs.length ≤ 24) : Fits (s.frameEnds bs) := by
  have counted : Fits (s.setLrx { s.lrx with state := .hunt true, lineCount := (s.countFrame (classify bs) bs).1 }) :=
    { h with lineCount := fun c hc => h.countFrame (classify bs) bs c hc }
  have content (mm : Bool) (d : Decoded)
      (e : contentOf (classify bs) (s.countFrame (classify bs) bs).2 = .good mm d) : d.fits := by
    refine classify_fits bs d ?_
    cases hc : classify bs <;> rw [hc] at e <;> cases e
    rfl
  exact (Fits.attemptSent (Fits.handOff (counted.handRecord _ (recordOf_fits _ _ _ _ (by omega) content)) _ _) _).settle

theorem execStartDelimiter (h : Fits s) : Leads (execStartDelimiter s) Fits := by
  unfold Machine.execStartDelimiter
  split
  · exact (leads_next ..).2 h
  · rename_i t ht
    exact (leads_next ..).2 ((h.frameStart ht).setLrxState _)

theorem execMalformedStart (h : Fits s) : Leads (execMalformedStart s) Fits := by
  unfold Machine.execMalformedStart
  split
  · exact (leads_next ..).2 h
  · rename_i t ht
    exact (leads_next ..).2 ((h.frameStart ht).discardFrame _ _ _ (by decide) (by simp))

theorem execViolation (h : Fits s) (hb : ∀ bs, s.lrx.state = .receiving bs → bs.length ≤ 24) :
    Leads (execViolation s) Fits := by
  unfold Machine.execViolation
  split
  · rename_i bs hs
    have := hb bs hs
    refine (leads_next ..).2 (h.discardFrame _ _ _ (by omega) fun mm d => ?_)
    split <;> simp
  all_goals exact (leads_next ..).2 h

theorem execTooLong (h : Fits s) : Leads (execTooLong s) Fits := by
  unfold Machine.execTooLong
  split
  · split
    · exact (leads_next ..).2 (h.discardFrame _ _ _ (by decide) (by simp))
    · exact (leads_next ..).2 h
  all_goals exact (leads_next ..).2 h

theorem execEndDelimiter (h : Fits s) (hb : ∀ bs, s.lrx.state = .receiving bs → bs.length ≤ 24) :
    Leads (execEndDelimiter s) Fits := by
  have quiet := h.sdlTwoCellsRecessive
  unfold Machine.execEndDelimiter
  split
  · rename_i bs hs
    exact (leads_next ..).2 (quiet.frameEnds bs (hb bs hs))
  all_goals exact h.leads_if (quiet.attemptSent _).settle

theorem execLineIdle (h : Fits s) : Leads (execLineIdle s) Fits := by
  unfold Machine.execLineIdle
  split
  · split
    case _ => exact (leads_next ..).2 (h.sdlIdle.setLrxState _)
    case _ => exact (leads_next ..).2 (h.sdlIdle.setLrxState _)
    case _ => exact (leads_next ..).2 (h.sdlIdle.setLrxState _)
    case _ => exact (leads_next ..).2 h.sdlIdle
    case _ => exact (leads_next ..).2 h
  · exact (leads_next ..).2 h

theorem execWholeByte (h : Fits s) (b : Byte) : Leads (execWholeByte b s) Fits := by
  unfold Machine.execWholeByte
  split
  · rename_i bs hs
    have taken := h.setLrxState (.receiving (bs ++ [b]))
    split
    · exact leads_ite (fun _ => { taken with capture := taken.capture.byteRead _ }) taken
    · exact (leads_next ..).2 (h.discardFrame _ _ _ (by decide) (by simp))
  all_goals exact (leads_next ..).2 h

theorem execSdlDominant (h : Fits s) : Leads (execSdlDominant s) Fits :=
  (leads_next ..).2 { h.seesIdle with }

/-! ### The Link Transmitter -/

theorem execAttemptStart (h : Fits s) : Leads (execAttemptStart s) Fits := by
  unfold Machine.execAttemptStart
  split
  · exact (leads_next ..).2 h
  · exact (leads_next ..).2 (h.beginAttempt _)

theorem execLostArbitration (h : Fits s) : Leads (execLostArbitration s) Fits := by
  unfold Machine.execLostArbitration
  split
  · exact (leads_next ..).2 h
  · exact (leads_next ..).2 (h.loseArbitration _)

theorem execTransmitFault (h : Fits s) : Leads (execTransmitFault s) Fits := by
  unfold Machine.execTransmitFault
  split
  · exact (leads_next ..).2 h
  · exact (leads_next ..).2 (h.meetFault _).settle

theorem nextCheck (h : Fits s) : Fits s.nextCheck := by
  refine Fits.request (s := State.setLtx _ _) ?_ _
  exact { h with }

theorem execAnnounceTimerExpiry (h : Fits s) : Leads (execAnnounceTimerExpiry s) Fits := by
  refine h.leads_if (Fits.request (s := State.setLtx _ _) ?_ _)
  exact { h with }

/-! ### Records -/

theorem execTakeAnnounce (h : Fits s) : Leads (execTakeAnnounce s) Fits := by
  have fits := h.head
  unfold Machine.execTakeAnnounce
  split
  · rename_i x mm f hh
    obtain ⟨hx, hf⟩ := hh ▸ fits
    exact (leads_next ..).2 ((h.dropHead.peerAnnounce x hx mm f hf).confirm mm).endOfCeEvent
  all_goals exact (leads_next ..).2 h

theorem execTakeIntent (h : Fits s) : Leads (execTakeIntent s) Fits := by
  have fits := h.head
  unfold Machine.execTakeIntent
  split
  · rename_i x mm f hh
    obtain ⟨hx, hf⟩ := hh ▸ fits
    exact (leads_next ..).2 ((h.dropHead.peerIntent x hx mm f hf).confirm mm).endOfCeEvent
  all_goals exact (leads_next ..).2 h

theorem execTakeSettle (h : Fits s) : Leads (execTakeSettle s) Fits := by
  have fits := h.head
  unfold Machine.execTakeSettle
  split
  · rename_i x mm f hh
    obtain ⟨hx, hf⟩ := hh ▸ fits
    exact (leads_next ..).2 ((h.dropHead.peerSettle x hx mm f hf).confirm mm).endOfCeEvent
  all_goals exact (leads_next ..).2 h

theorem execTakeLeave (h : Fits s) : Leads (execTakeLeave s) Fits := by
  unfold Machine.execTakeLeave
  split
  · exact (leads_next ..).2 ((h.dropHead.peerLeave _ _).confirm _).endOfCeEvent
  all_goals exact (leads_next ..).2 h

theorem execTakeOwnRecord (h : Fits s) : Leads (execTakeOwnRecord s) Fits := by
  unfold Machine.execTakeOwnRecord
  split
  · exact (leads_next ..).2 (h.dropHead.ownRecord _).endOfCeEvent
  all_goals exact (leads_next ..).2 h

theorem execTakeDuplicateRecord (h : Fits s) : Leads (execTakeDuplicateRecord s) Fits := by
  unfold Machine.execTakeDuplicateRecord
  split
  · exact (leads_next ..).2 (h.dropHead.duplicateRecord _).endOfCeEvent
  all_goals exact (leads_next ..).2 h

theorem execTakeErrorRecord (h : Fits s) : Leads (execTakeErrorRecord s) Fits := by
  unfold Machine.execTakeErrorRecord
  split
  · exact (leads_next ..).2 (h.dropHead.errorRecord _).endOfCeEvent
  all_goals exact (leads_next ..).2 h

theorem execTakeLossRecord (h : Fits s) : Leads (execTakeLossRecord s) Fits := by
  unfold Machine.execTakeLossRecord
  split
  · exact (leads_next ..).2 h.dropHead.unrefresh.openingDoubt.endOfCeEvent
  all_goals exact (leads_next ..).2 h

theorem execTakeCheckRecord (h : Fits s) : Leads (execTakeCheckRecord s) Fits := by
  unfold Machine.execTakeCheckRecord
  split
  · exact (leads_next ..).2 h.dropHead.endOfCeEvent
  all_goals exact (leads_next ..).2 h

theorem execPeerLost (h : Fits s) (id : Nat) : Leads (execPeerLost id s) Fits := by
  unfold Machine.execPeerLost
  split
  · exact (leads_next ..).2 h
  · rename_i p hp
    exact h.leads_if (h.loseRecord p (List.mem_of_find?_eq_some hp)).endOfCeEvent

theorem execPeerForgotten (h : Fits s) (id : Nat) : Leads (execPeerForgotten id s) Fits := by
  unfold Machine.execPeerForgotten
  split
  · exact (leads_next ..).2 h
  · exact h.leads_if (h.forgetRecord id).endOfCeEvent

/-! ### The timers of the Claim Engine and the notices -/

/-- In WINDOW the claim and what the intent asks for stay under the ceiling. -/
theorem execHoldWindowExpiry (h : Fits s) (hc : ClaimSound s) : Leads (execHoldWindowExpiry s) Fits := by
  refine leads_ite (fun hd => ?_) h
  have window : s.own.intentState = .window := by
    simp only [State.holdDue, Bool.and_eq_true, beq_iff_eq] at hd
    exact hd.1
  obtain ⟨f, hf, -, -, sum⟩ := hc.openIntent (.inr window)
  have delta : s.currentIntent = f := by simp [State.currentIntent, hf]
  have := h.ceiling_le
  exact (h.decideIntent (by rw [delta]; omega)).endOfCeEvent

theorem execSentNotice (h : Fits s) : Leads (execSentNotice s) Fits := by
  unfold Machine.execSentNotice
  split
  · refine (leads_next ..).2 (Fits.endOfCeEvent ?_)
    unfold State.takeSent
    split
    · exact .ite h.takeLtx.openingSent h.takeLtx
    · exact .ite h.takeLtx.endSettling h.takeLtx
    · exact .ite h.takeLtx.completeLeave h.takeLtx
    all_goals exact h.takeLtx
  · exact (leads_next ..).2 h

theorem execDroppedNotice (h : Fits s) : Leads (execDroppedNotice s) Fits := by
  unfold Machine.execDroppedNotice
  split
  · refine (leads_next ..).2 (Fits.endOfCeEvent ?_)
    unfold State.takeDropped
    split
    · exact .ite h.takeLtx.endOpening h.takeLtx
    · exact .ite h.takeLtx.endSettling h.takeLtx
    · exact .ite h.takeLtx.completeLeave h.takeLtx
    all_goals exact h.takeLtx
  · exact (leads_next ..).2 h

theorem execRecalledNotice (h : Fits s) : Leads (execRecalledNotice s) Fits := by
  unfold Machine.execRecalledNotice
  split
  · exact (leads_next ..).2 (Fits.endOfCeEvent (.ite h.takeLtx.endOpening h.takeLtx))
  · exact (leads_next ..).2 h

theorem execIsolatedNotice (h : Fits s) : Leads (execIsolatedNotice s) Fits := by
  unfold Machine.execIsolatedNotice
  split
  · exact (leads_next ..).2 h.takeLtx.takeIsolated.endOfCeEvent
  · exact (leads_next ..).2 h

theorem execIsolationEndNotice (h : Fits s) : Leads (execIsolationEndNotice s) Fits := by
  unfold Machine.execIsolationEndNotice
  split
  · exact (leads_next ..).2 h.takeLtx.takeIsolationEnd.endOfCeEvent
  · exact (leads_next ..).2 h

theorem execRejoinNotice (h : Fits s) : Leads (execRejoinNotice s) Fits := by
  unfold Machine.execRejoinNotice
  split
  · exact (leads_next ..).2 (Fits.endOfCeEvent (.ite h.takeLtx.takeRejoin h.takeLtx))
  · exact (leads_next ..).2 h

theorem execCheckPassed (h : Fits s) : Leads (execCheckPassed s) Fits := by
  unfold Machine.execCheckPassed
  split
  · exact (leads_next ..).2 (Fits.endOfCeEvent (.ite h.takeLtx.enterListening h.takeLtx))
  · exact (leads_next ..).2 h

theorem execCheckFailed (h : Fits s) : Leads (execCheckFailed s) Fits := by
  unfold Machine.execCheckFailed
  split
  · exact (leads_next ..).2 h.takeLtx.endOfCeEvent
  · exact (leads_next ..).2 h

theorem takeSlu (h : Fits s) : Fits s.takeSlu := { h with }

theorem takeAu (h : Fits s) : Fits s.takeAu := { h with }

theorem takePfu (h : Fits s) : Fits s.takePfu := { h with }

theorem execShedStartNotice (h : Fits s) : Leads (execShedStartNotice s) Fits := by
  unfold Machine.execShedStartNotice
  split
  · exact (leads_next ..).2 h.takeSlu.withdrawalCause.endOfCeEvent
  · exact (leads_next ..).2 h

theorem execShedEndNotice (h : Fits s) : Leads (execShedEndNotice s) Fits := by
  unfold Machine.execShedEndNotice
  split
  · split
    · exact (leads_next ..).2 h
    · exact (leads_next ..).2 h.takeSlu.endOfCeEvent
  · exact (leads_next ..).2 h

theorem execForceAlarmNotice (h : Fits s) : Leads (execForceAlarmNotice s) Fits := by
  unfold Machine.execForceAlarmNotice
  split
  · exact (leads_next ..).2 h.takeAu.withdrawalCause.endOfCeEvent
  · exact (leads_next ..).2 h

theorem execClearedNotice (h : Fits s) : Leads (execClearedNotice s) Fits := by
  unfold Machine.execClearedNotice
  split
  · exact (leads_next ..).2 h.takeAu.endOfCeEvent
  · exact (leads_next ..).2 h

theorem execProfileChangeEvent (h : Fits s) : Leads (execProfileChangeEvent s) Fits := by
  unfold Machine.execProfileChangeEvent
  split
  · exact (leads_next ..).2 (Fits.endOfCeEvent (.ite (h.takePfu.applyProfileChange _) h.takePfu))
  · exact (leads_next ..).2 h

/-! ### The other units -/

theorem execPselChange (h : Fits s) (a b c : Bool) : Leads (execPselChange a b c s) Fits := by
  unfold Machine.execPselChange
  dsimp only
  split
  · exact (leads_next ..).2 { h with pfu := ⟨h.pfu.table, h.pfu.budget, sampledIndex_le _, h.pfu.age⟩ }
  · split
    · exact (leads_next ..).2 h
    · exact (leads_next ..).2 { h with pfu := ⟨h.pfu.table, h.pfu.budget, h.pfu.profile, h.pfu.age⟩ }

theorem execShdLevelChange (h : Fits s) (l : Level) : Leads (execShdLevelChange l s) Fits := by
  unfold Machine.execShdLevelChange
  split
  · exact (leads_next ..).2 { h with }
  · split
    · exact (leads_next ..).2 h
    · exact (leads_next ..).2 { h.observesDue with }

theorem execRecoveryTimerExpiry (h : Fits s) : Leads (execRecoveryTimerExpiry s) Fits := by
  refine h.leads_if (Fits.settle (s := State.giveSlu _ _) ?_)
  exact { h with }

theorem endHold (h : Fits s) : Fits s.endHold := { h with }

theorem execPwmeEdge (h : Fits s) (rising : Bool) : Leads (execPwmeEdge rising s) Fits := by
  have edge : Fits ((s.setPins { s.pins with pwme := rising }).setCmon
      { s.cmon with blanking := s.blankingAtEdge, reached := s.tripDue }) := { h with }
  unfold Machine.execPwmeEdge
  dsimp only
  split
  · exact (leads_next ..).2 { h with }
  · split
    · exact (leads_next ..).2 edge.endHold.settle
    · exact (leads_next ..).2 edge.settle

theorem execBlankingEnd (h : Fits s) : Leads (execBlankingEnd s) Fits := by
  refine h.leads_if (Fits.settle (s := State.setCmon _ _) ?_)
  exact { h with }

theorem execSenseChange (h : Fits s) (n : Nat) : Leads (execSenseChange n s) Fits := by
  refine (leads_next ..).2 (Fits.settle (s := State.setPins _ _) ?_)
  exact { h with }

theorem execFollowTimerExpiry (h : Fits s) : Leads (execFollowTimerExpiry s) Fits := by
  refine h.leads_if (Fits.settle (s := State.setCmon _ _) ?_)
  exact { h with grace := Nat.zero_le _ }

theorem execEndOfFullReset (h : Fits s) : Leads (execEndOfFullReset s) Fits :=
  h.leads_if { h with pfu := ⟨h.pfu.table, h.pfu.budget, sampledIndex_le _, Nat.zero_le _⟩ }

/-! ### The Local Port -/

theorem endTransaction (h : Fits s) : Fits s.endTransaction := { h with }

theorem execTransactionStart (h : Fits s) : Leads (execTransactionStart s) Fits := by
  unfold Machine.execTransactionStart
  split
  · exact (leads_next ..).2 h
  · exact (leads_next ..).2 { h with }

theorem execReadCounters (h : Fits s) (ps : List Byte) : Leads (execReadCounters ps s) Fits := by
  refine h.leads_answer _ _ _ _ _ fun _ t _ ht => ?_
  dsimp only
  split
  · exact { ht with counters := .zero }
  · exact ht

theorem execSetTarget (h : Fits s) (ps : List Byte) : Leads (execSetTarget ps s) Fits := by
  refine h.leads_answer _ _ _ _ _ fun hr t _ ht => ?_
  simp only [Bool.and_eq_true, decide_eq_true_eq] at hr
  obtain ⟨⟨target, -⟩, step⟩ := hr
  exact (ht.applyTarget _ _ (target.trans h.ceiling_le) step).endOfCeEvent

theorem releaseLatch (h : Fits s) : Fits s.releaseLatch := by
  refine Fits.settle (s := State.setCmon _ _) ?_
  exact { h with consecutive := Nat.zero_le _ }

theorem setHostShed (h : Fits s) (b : Bool) : Fits (s.setHostShed b) := by
  refine Fits.settle (s := State.setSlu _ _) ?_
  exact { h with }

/-- Every command leads to a state whose registers hold what they can hold. The widths rest on the at most 24 bytes that LRX
assembles and on the room under the ceiling that an open intent leaves. -/
theorem exec (c : Instr) (h : Fits s) (hb : ∀ bs, s.lrx.state = .receiving bs → bs.length ≤ 24) (hc : ClaimSound s) :
    Leads (exec c s) Fits := by
  cases c with
  | fullReset => exact (leads_next ..).2 (.inFullReset _ _ _ _ (sampledIndex_le _))
  | startDelimiter => exact h.execStartDelimiter
  | malformedStart => exact h.execMalformedStart
  | violation => exact h.execViolation hb
  | tooLong => exact h.execTooLong
  | endDelimiter => exact h.execEndDelimiter hb
  | lineIdle => exact h.execLineIdle
  | wholeByte b => exact h.execWholeByte b
  | sdlDominant => exact h.execSdlDominant
  | attemptStart => exact h.execAttemptStart
  | lostArbitration => exact h.execLostArbitration
  | transmitFault => exact h.execTransmitFault
  | announceTimerExpiry => exact h.execAnnounceTimerExpiry
  | isolationTimer3P => exact h.leads_if { h with }
  | isolationTimer40P => exact h.leads_if { h with }
  | repeatTimerExpiry => exact h.leads_if h.nextCheck
  | peerLost id => exact h.execPeerLost id
  | peerForgotten id => exact h.execPeerForgotten id
  | duplicateTimerExpiry => exact h.leads_if (h.setView _ (by exact { h.view with })).endOfCeEvent
  | takeAnnounce => exact h.execTakeAnnounce
  | takeIntent => exact h.execTakeIntent
  | takeSettle => exact h.execTakeSettle
  | takeLeave => exact h.execTakeLeave
  | takeOwnRecord => exact h.execTakeOwnRecord
  | takeDuplicateRecord => exact h.execTakeDuplicateRecord
  | takeErrorRecord => exact h.execTakeErrorRecord
  | takeLossRecord => exact h.execTakeLossRecord
  | takeCheckRecord => exact h.execTakeCheckRecord
  | holdWindowExpiry => exact h.execHoldWindowExpiry hc
  | retryTimerExpiry => exact h.leads_if (h.setOwn _ (by exact h.own)).endOfCeEvent
  | listenTimerExpiry => exact h.leads_if (h.setOwn _ (by exact h.own)).endOfCeEvent
  | sentNotice => exact h.execSentNotice
  | droppedNotice => exact h.execDroppedNotice
  | recalledNotice => exact h.execRecalledNotice
  | isolatedNotice => exact h.execIsolatedNotice
  | isolationEndNotice => exact h.execIsolationEndNotice
  | rejoinNotice => exact h.execRejoinNotice
  | checkPassed => exact h.execCheckPassed
  | checkFailed => exact h.execCheckFailed
  | shedStartNotice => exact h.execShedStartNotice
  | shedEndNotice => exact h.execShedEndNotice
  | forceAlarmNotice => exact h.execForceAlarmNotice
  | clearedNotice => exact h.execClearedNotice
  | pselChange a b c => exact h.execPselChange a b c
  | settleTimerExpiry => exact h.leads_if h.profileSettles
  | profileChangeEvent => exact h.execProfileChangeEvent
  | shdLevelChange l => exact h.execShdLevelChange l
  | shdObservedAsserted => exact h.leads_if h.observeAsserted.settle
  | shdObservedReleased => exact h.leads_if h.observeReleased.settle
  | recoveryTimerExpiry => exact h.execRecoveryTimerExpiry
  | pwmeEdge rising => exact h.execPwmeEdge rising
  | blankingEnd => exact h.execBlankingEnd
  | senseChange n => exact h.execSenseChange n
  | trip => exact h.leads_if h.countTrip.actOnTrip.settle
  | tripHoldEnd => exact h.leads_if h.endHold.settle
  | cleanTimerExpiry => exact h.leads_if { h with consecutive := Nat.zero_le _ }
  | followTimerExpiry => exact h.execFollowTimerExpiry
  | transactionStart => exact h.execTransactionStart
  | transactionWithoutRequest => exact h.leads_if h.endTransaction
  | unknownRequest code => exact h.leads_if (h.endTransaction.respond ..)
  | nop => exact h.leads_if h.endTransaction
  | readStatus => exact h.leads_answer _ _ _ _ _ fun _ t _ ht => ht
  | readSnapshot ps => exact h.leads_answer _ _ _ _ _ fun _ t _ ht => ht
  | readCapture => exact h.leads_answer _ _ _ _ _ fun _ t _ ht => { ht with }
  | readCounters ps => exact h.execReadCounters ps
  | configure ps => exact h.leads_answer _ _ _ _ _ fun hr t _ ht => ht.storeConfig _ hr
  | join => exact h.leads_answer _ _ _ _ _ fun _ t _ ht => ht.beginRun _ _
  | leave => exact h.leads_answer _ _ _ _ _ fun _ t _ ht => ht.takeLeaveRequest.endOfCeEvent
  | setTarget ps => exact h.execSetTarget ps
  | reEnable => exact h.leads_answer _ _ _ _ _ fun _ t _ ht => ht.releaseLatch
  | assertShed => exact h.leads_answer _ _ _ _ _ fun _ t _ ht => ht.setHostShed _
  | releaseShed => exact h.leads_answer _ _ _ _ _ fun _ t _ ht => ht.setHostShed _
  | clearAlarms ps => exact h.leads_answer _ _ _ _ _ fun _ t _ ht => (ht.auNoticesTaken _).clearNamed _
  | takeSnapshot => exact h.leads_answer _ _ _ _ _ fun _ t _ ht => ht.snapshotTaken.endOfCeEvent
  | lineCheck ps => exact h.leads_answer _ _ _ _ _ fun _ t _ ht => ht.beginRun _ _
  | stopCheck => exact h.leads_answer _ _ _ _ _ fun _ t _ ht => ht.stopRun
  | endOfFullReset => exact h.execEndOfFullReset
  | resetIgnoreEnd => exact h.leads_if { h with }

end Fits

/-- A step keeps the widths. -/
theorem Fits.step {s t : State} (h : Fits s) (hb : ∀ bs, s.lrx.state = .receiving bs → bs.length ≤ 24) (hc : ClaimSound s)
    (hstep : Machine.step s = .next t) : Fits t := by
  rcases step_cases s t hstep with ⟨c, q, n, he⟩ | ⟨n, rfl⟩
  · exact Fits.exec c (s := (s.setPending q).setFreeCount n) { h with } hb { hc with } t he
  · exact Fits.tick (s := s.setFreeCount n) { h with }

/-- Settles O56: the queue and the counts by the moves of the link, the widths by every command. -/
theorem queueCountsAndWidthsKept : Obligations.QueueCountsAndWidthsKept := fun s t hstep =>
  ⟨LinkMoves.keeps (P := fun s => QueueSound s.rsq) QueueSound.move (step_linkMoves s t hstep),
    LinkMoves.keeps (P := fun s => CountsSound s.ltx.pend) CountsSound.move (step_linkMoves s t hstep),
    fun hc hl hw => ((fits_iff t).1 (Fits.step ((fits_iff s).2 ⟨hw, hc.inRange⟩) hl.bytes hc hstep)).1⟩

end Sys2Proof.Machine
end

section
/-! ## Time and what is due (O4) -/

namespace Sys2Proof.Machine

namespace State

variable (s : State)

/-! ### The due events, each by the registers it reads -/

theorem mem_offer_iff (b : Bool) (i c : Instr) : c ∈ offer b i ↔ c = i ∧ b = true := by
  rw [mem_offer, and_comm]

theorem mayTransmit_eq_true_iff :
    s.mayTransmit = true ↔ s.own.attach ≠ .detached ∨ s.ltx.check.run.isSome = true := by
  simp [mayTransmit, lineCheckRunning]

theorem gapBits_eq (k : FrameKind) : k.gapBits = if k = .settle ∨ k = .leave then 12 else 24 := by
  cases k <;> rfl

theorem attemptDue_isSome_iff : s.attemptDue.isSome = true ↔
    s.ltx.attempt = none ∧ s.rst.held = false ∧ (s.own.attach ≠ .detached ∨ s.ltx.check.run.isSome = true) ∧
      ∃ k gap, s.ltx.pend.candidate = some k ∧ gap = (if k = .settle ∨ k = .leave then 12 else 24) * s.bitTime ∧
        (gap ≤ s.ltx.recessive ∨ ∃ t, s.pins.sdl = some t ∧ 4 * t ≤ s.bitTime ∧ gap ≤ s.ltx.recessiveBefore + t) := by
  simp only [Option.isSome_iff_exists, attemptDue_eq_some_iff, mayTransmit_eq_true_iff, gapReached_eq_true_iff, gapBits_eq]
  constructor
  · rintro ⟨k, ha, hm, hh, hc, hg⟩
    exact ⟨ha, hh, hm, k, _, hc, rfl, hg⟩
  · rintro ⟨ha, hh, hm, k, _, hc, rfl, hg⟩
    exact ⟨k, ha, hm, hh, hc, hg⟩

theorem isolation3PDue_iff :
    s.isolation3PDue = true ↔ s.ltx.isolationInd = false ∧ ∃ n, s.ltx.isolation = some n ∧ 3 * s.period ≤ n := by
  simp [isolation3PDue, reached_eq_true_iff, and_comm]

theorem isolation40PDue_iff :
    s.isolation40PDue = true ↔ s.ltx.rejoinGiven = false ∧ ∃ n, s.ltx.isolation = some n ∧ 40 * s.period ≤ n := by
  simp [isolation40PDue, reached_eq_true_iff, and_comm]

theorem repeatDue_iff :
    s.repeatDue = true ↔ s.ltx.check.repeatTimer = some 0 ∧ ∃ r, s.ltx.check.run = some r ∧ r.phase = .waiting := by
  simp [repeatDue, expired_eq_true_iff, Option.any_eq_true]

theorem holdDue_iff : s.holdDue = true ↔ s.own.intentState = .window ∧ s.own.hold = some 0 := by
  simp [holdDue, expired_eq_true_iff]

theorem retryDue_iff : s.retryDue = true ↔ s.own.intentState = .retryWait ∧ s.own.retry = some 0 := by
  simp [retryDue, expired_eq_true_iff]

theorem listenDue_iff : s.listenDue = true ↔ s.own.attach = .listening ∧ s.own.listen = some 0 := by
  simp [listenDue, expired_eq_true_iff]

theorem settleDue_iff : s.settleDue = true ↔ ∃ n, s.pfu.settle = some n ∧ 1000 * usTicks ≤ n :=
  reached_eq_true_iff _ _

theorem assertedDue_iff : s.assertedDue = true ↔ s.pins.shd = .dominant ∧ s.slu.observed = .released ∧
    ∃ n, s.slu.filter = some n ∧ 2 * usTicks ≤ n := by
  unfold assertedDue
  rw [Bool.and_eq_true, filterDue_eq_true_iff]
  cases s.pins.shd <;> cases s.slu.observed <;> simp [observedOf, shdFilterTicks]

theorem releasedDue_iff : s.releasedDue = true ↔ s.pins.shd = .recessive ∧ s.slu.observed = .asserted ∧
    ∃ n, s.slu.filter = some n ∧ 2 * usTicks ≤ n := by
  unfold releasedDue
  rw [Bool.and_eq_true, filterDue_eq_true_iff]
  cases s.pins.shd <;> cases s.slu.observed <;> simp [observedOf, shdFilterTicks]

theorem tripDue_iff : s.tripDue = true ↔ s.own.attach = .member ∧ s.cmon.trip ≠ .latched ∧ (s.cmon.reached = true ∨
    (s.cmon.blanking = none ∧ s.threshold < s.pins.sense ∧ s.cmon.armed = true ∧ s.qualifyTime ≤ s.cmon.qualify)) := by
  simp only [tripDue, qualifying, evaluated, blanked, comparatorOver, Bool.or_eq_true, Bool.and_eq_true, bne_iff_ne, beq_iff_eq,
    Bool.not_eq_true', Option.isSome_eq_false_iff, Option.isNone_iff_eq_none, decide_eq_true_eq, ← and_or_left, and_assoc]

theorem holdEndDue_iff : s.holdEndDue = true ↔ s.cmon.trip = .hold ∧ s.cmon.hold = some 0 := by
  simp [holdEndDue, expired_eq_true_iff]

theorem peerLostDue_iff (p : Peer) : s.peerLostDue p = true ↔ p.presence = .live ∧ 5 * s.period ≤ p.quiet := by
  simp [peerLostDue, Peer.isLive]

theorem peerForgottenDue_iff (p : Peer) : s.peerForgottenDue p = true ↔ p.presence = .lost ∧ 50 * s.period ≤ p.quiet := by
  cases h : p.presence <;> simp [peerForgottenDue, Peer.isLive, h]

theorem mem_duePeers_iff (c : Instr) : c ∈ s.duePeers ↔
    ∃ p ∈ s.view.peers, (c = .peerLost p.id ∧ p.presence = .live ∧ 5 * s.period ≤ p.quiet) ∨
      (c = .peerForgotten p.id ∧ p.presence = .lost ∧ 50 * s.period ≤ p.quiet) := by
  simp only [duePeers, List.mem_flatMap, List.mem_append, mem_offer_iff, peerLostDue_iff, peerForgottenDue_iff]

/-! ### What CE may take -/

/-- The command of R53's row for a frame record that CE reads with its own station ID. -/
theorem mem_takeHead_iff (c : Instr) : c ∈ s.takeHead ↔
    s.own.attach ≠ .detached ∧ ∃ h rest, s.rsq.records = h :: rest ∧
      ((∃ n, h = .loss n ∧ c = .takeLossRecord) ∨ ∃ r, h = .frame r ∧
        ((∃ mm, r.content = .good mm .check ∧ c = .takeCheckRecord) ∨
        (r.own = true ∧ (∀ mm, r.content ≠ .good mm .check) ∧ c = .takeOwnRecord) ∨
        (r.own = false ∧ (∀ mm d, r.content ≠ .good mm d) ∧ c = .takeErrorRecord) ∨
        (r.own = false ∧ ∃ mm d, r.content = .good mm d ∧ d ≠ .check ∧
          ((r.sender.getD 0 = s.ownId ∧ c = .takeDuplicateRecord) ∨ (r.sender.getD 0 ≠ s.ownId ∧ c = match d with
            | .announce _ => .takeAnnounce | .intent _ => .takeIntent | .settle _ => .takeSettle | .leave => .takeLeave
            | .check => .takeCheckRecord))))) := by
  by_cases ha : s.own.attach = .detached
  · simp [takeHead, head, ha]
  · cases hq : s.rsq.records with
    | nil => simp [takeHead, head, hq]
    | cons h rest =>
      cases h with
      | loss n => simp [takeHead, head, ha, hq]
      | frame r =>
        simp only [takeHead, head, ha, hq, if_false]
        cases hc : r.content with
        | good mm d =>
          cases ho : r.own
          · by_cases hs : r.sender.getD 0 = s.ownId
            · cases d <;> simp [headOfFrame, headOfPeer, ha, hc, ho, hs, -Bool.exists_bool, -Bool.forall_bool]
            · cases d <;> simp [headOfFrame, headOfPeer, ha, hc, ho, hs, -Bool.exists_bool, -Bool.forall_bool]
          · cases d <;> simp [headOfFrame, ha, hc, ho, -Bool.exists_bool, -Bool.forall_bool]
        | crcError => cases ho : r.own <;> simp [headOfFrame, ha, hc, ho, -Bool.exists_bool, -Bool.forall_bool]
        | symbolError => cases ho : r.own <;> simp [headOfFrame, ha, hc, ho, -Bool.exists_bool, -Bool.forall_bool]
        | tooLong => cases ho : r.own <;> simp [headOfFrame, ha, hc, ho, -Bool.exists_bool, -Bool.forall_bool]
        | formatError => cases ho : r.own <;> simp [headOfFrame, ha, hc, ho, -Bool.exists_bool, -Bool.forall_bool]
        | fragment => cases ho : r.own <;> simp [headOfFrame, ha, hc, ho, -Bool.exists_bool, -Bool.forall_bool]

theorem mem_takeLtxNotice_iff (c : Instr) : c ∈ s.takeLtxNotice ↔ ∃ n rest, s.notices.ltx = n :: rest ∧ c = match n with
    | .sent _ => .sentNotice | .dropped _ => .droppedNotice | .recalled => .recalledNotice | .isolated => .isolatedNotice
    | .isolationEnd => .isolationEndNotice | .rejoin => .rejoinNotice | .checkPassed => .checkPassed
    | .checkFailed => .checkFailed := by
  unfold takeLtxNotice
  cases hn : s.notices.ltx with
  | nil => simp
  | cons n rest => cases n <;> simp

theorem mem_takeSluNotice_iff (c : Instr) : c ∈ s.takeSluNotice ↔
    (∃ rest, s.notices.slu = .shedStart :: rest ∧ c = .shedStartNotice) ∨
    (∃ rest, s.notices.slu = .shedEnd :: rest ∧ c = .shedEndNotice ∧ ¬(s.pins.shd = .dominant ∧ s.slu.observed = .released ∧
      ∃ n, s.slu.filter = some n ∧ 2 * usTicks ≤ n)) := by
  rw [← assertedDue_iff]
  unfold takeSluNotice
  cases hn : s.notices.slu with
  | nil => simp
  | cons n rest => cases n <;> simp [mem_offer_iff]

theorem mem_takeAuNotice_iff (c : Instr) : c ∈ s.takeAuNotice ↔
    ∃ n rest, s.notices.au = n :: rest ∧ c = match n with | .forceAlarm _ => .forceAlarmNotice | .cleared => .clearedNotice := by
  unfold takeAuNotice
  cases hn : s.notices.au with
  | nil => simp
  | cons n rest => cases n <;> simp

/-! ### The choice -/

/-- A choice names one of the commands, or, only while nothing is due, lets time pass. -/
theorem chooseEvent_spec (n : Nat) (due takes : List Instr) (h : ¬(due = [] ∧ takes = [])) :
    (∃ c, (c ∈ due ∨ c ∈ takes) ∧ chooseEvent n due takes = some c) ∨ (due = [] ∧ chooseEvent n due takes = none) := by
  unfold chooseEvent
  cases due with
  | nil =>
    cases hc : takes[n % (takes.length + 1)]? with
    | none => exact .inr ⟨rfl, rfl⟩
    | some c => exact .inl ⟨c, .inr (List.mem_of_getElem? hc), rfl⟩
  | cons d due =>
    have hlt : n % ((d :: due).length + takes.length) < (d :: due ++ takes).length := by
      rw [List.length_append]
      exact Nat.mod_lt _ (by simp)
    exact .inl ⟨_, List.mem_append.1 (List.getElem_mem hlt), List.getElem?_eq_getElem hlt⟩

/-- What a unit of time does while no full reset lasts, unit by unit. -/
theorem tick_of_running (h : s.rst.held = false) : s.tick = { s with
    rst := { s.rst with blind := countDown s.rst.blind }, pins := s.tickPins, lrx := s.tickLrx, ltx := s.tickLtx,
    own := s.tickOwn, view := s.tickView, pfu := s.tickPfu, slu := s.tickSlu, cmon := s.tickCmon } :=
  if_neg (by simp [h])

theorem tickLrx_eq :
    s.tickLrx = { s.lrx with state := match s.lrx.state with | .starting age => .starting (age + 1) | x => x } := by
  unfold tickLrx
  cases h : s.lrx.state <;> dsimp only <;> rw [← h]

theorem tickLtx_eq : s.tickLtx = { s.ltx with
    recessive := if s.pins.sdl = none then s.ltx.recessive + 1 else s.ltx.recessive,
    announce := s.ltx.announce.map (· - 1), isolation := s.ltx.isolation.map (· + 1),
    check := { s.ltx.check with repeatTimer := s.ltx.check.repeatTimer.map (· - 1) } } := by
  simp only [tickLtx, Option.isNone_iff_eq_none, countDown, countUp]

theorem tick_of_held (h : s.rst.held = true) : s.tick = s := if_pos h

end State

theorem step_eq_tick (s : State) (hp : s.pending = []) (hd : s.dueEvents = []) (hc : s.ceTakes = []) : step s = .next s.tick := by
  simp [step, ownStep, hp, hd, hc]

theorem step_of_choice (s : State) (hp : s.pending = []) (h : ¬(s.dueEvents = [] ∧ s.ceTakes = [])) :
    (∃ c, (c ∈ s.dueEvents ∨ c ∈ s.ceTakes) ∧ step s = exec c (s.setFreeCount (s.freeCount + 1))) ∨
    (s.dueEvents = [] ∧ step s = .next (s.setFreeCount (s.freeCount + 1)).tick) := by
  have busy : (s.dueEvents.isEmpty && s.ceTakes.isEmpty) = false := by simpa using h
  rcases State.chooseEvent_spec (Config.freeChoice s.freeCount) _ _ h with ⟨c, hc, he⟩ | ⟨hd, he⟩
  · exact .inl ⟨c, hc, by simp [step, ownStep, hp, busy, State.nextEvent, he]⟩
  · exact .inr ⟨hd, by simp [step, ownStep, hp, busy, State.nextEvent, he]⟩

/-- Settles O4: the step on an empty queue by the choice it makes, and the two lists by what each command offered reads. -/
theorem timePasses : Obligations.TimePasses := by
  refine ⟨⟨fun s hp hh hd hc => ?_, fun s hp hh hd hc => ?_, fun s hp h => step_of_choice s hp h⟩, fun s c => ?_, fun s c => ?_⟩
  · rw [step_eq_tick s hp hd hc, s.tick_of_running hh, s.tickLrx_eq, s.tickLtx_eq]
    rfl
  · rw [step_eq_tick s hp hd hc, s.tick_of_held hh]
  · unfold State.dueEvents
    simp only [List.mem_append, State.mem_offer_iff, or_assoc, State.attemptDue_isSome_iff, State.announceDue,
      State.isolation3PDue_iff, State.isolation40PDue_iff, State.repeatDue_iff, State.duplicateDue, State.holdDue_iff,
      State.retryDue_iff, State.listenDue_iff, State.settleDue_iff, State.assertedDue_iff, State.releasedDue_iff,
      State.recoveryDue, State.blankingDue, State.tripDue_iff, State.holdEndDue_iff, State.cleanDue, State.followDue,
      State.blindDue, expired_eq_true_iff, State.lineIdleDue_eq_true_iff, State.mem_duePeers_iff]
  · have event : (!s.notices.pfu.isEmpty) = true ↔ s.notices.pfu ≠ [] := by simp
    simp only [State.ceTakes, List.mem_append, State.mem_takeHead_iff, State.mem_takeLtxNotice_iff, State.mem_takeSluNotice_iff,
      State.mem_takeAuNotice_iff, State.mem_offer_iff, event, or_assoc, and_comm (a := c = .profileChangeEvent)] <;> rfl

end Sys2Proof.Machine
end

section
/-! ## Frames: the rules of a GOOD frame, and what is built reads back (O12, O13) -/

namespace Sys2Proof.Machine

/-! ### Bytes and bits -/

theorem bitsOf_eq (n lo len : Nat) : bitsOf n lo len = n / 2 ^ lo % 2 ^ len := rfl

theorem frameByte_le (bs : List Byte) (i : Nat) : frameByte bs i ≤ 255 := byteAt_le bs (i - 1)

theorem u8_toNat (n : Nat) : (u8 n).toNat = n % 256 := BitVec.toNat_ofNat ..

/-- The two bytes of a word, low byte first, read back. -/
theorem u8_word (n : Nat) (h : n ≤ 65535) : (u8 n).toNat + 256 * (u8 (n / 256)).toNat = n := by
  rw [u8_toNat, u8_toNat]
  omega

theorem byteAt_append_left (xs ys : List Byte) (k : Nat) (h : k < xs.length) : byteAt (xs ++ ys) k = byteAt xs k := by
  unfold byteAt
  rw [List.getD_append _ _ _ _ h]

theorem byteAt_append_right (xs ys : List Byte) (k : Nat) : byteAt (xs ++ ys) (xs.length + k) = byteAt ys k := by
  unfold byteAt
  rw [List.getD_append_right _ _ _ _ (Nat.le_add_right ..), Nat.add_sub_cancel_left]

theorem wordAt_append_right (xs ys : List Byte) (k : Nat) : wordAt (xs ++ ys) (xs.length + k) = wordAt ys k := by
  unfold wordAt
  rw [byteAt_append_right, Nat.add_assoc, byteAt_append_right]

/-! ### The CRC -/

theorem crc_append_singleton (bs : List Byte) (b : Byte) : crc (bs ++ [b]) = crcByte (crc bs) b := by simp [crc]

theorem crcBit_eq (reg : Word16) (b : Bool) :
    crcBit reg b = if b ^^ reg.toNat.testBit 15 then (reg <<< 1) ^^^ 0x1021 else reg <<< 1 := by
  rw [crcBit, BitVec.msb_eq_getLsbD_last]
  rfl

theorem crcByte_eq (reg : Word16) (b : Byte) : crcByte reg b =
    (List.range 8).foldl (fun (reg : Word16) k =>
      if b.toNat.testBit k ^^ reg.toNat.testBit 15 then (reg <<< 1) ^^^ 0x1021 else reg <<< 1) reg := by
  simp only [crcByte, bitsLsbFirst, List.foldl_map, crcBit_eq]
  rfl

/-- A byte string with its own CRC behind it. -/
theorem crcRight_append_crc (xs : List Byte) : crcRight (xs ++ u16 (crc xs).toNat) = true := by
  have len : (xs ++ u16 (crc xs).toNat).length - 2 = xs.length := by simp [u16]
  have word : wordAt (xs ++ u16 (crc xs).toNat) xs.length = (crc xs).toNat := by
    have := wordAt_append_right xs (u16 (crc xs).toNat) 0
    rw [Nat.add_zero] at this
    rw [this]
    exact u8_word _ (Nat.le_of_lt_succ (crc xs).isLt)
  unfold crcRight
  rw [len, word, List.take_left]
  exact beq_self_eq_true _

/-! ### The classification -/

theorem classify_of_fragment (bs : List Byte) (h : bs.length < 4) : classify bs = .fragment := if_pos h

theorem classify_of_short (bs : List Byte) (h : 4 ≤ bs.length) (h' : bs.length < 6) : classify bs = .crcError := by
  simp [classify, Nat.not_lt.2 h, h']

theorem classify_of_wrong (bs : List Byte) (h : 6 ≤ bs.length) (hc : crcRight bs = false) : classify bs = .crcError := by
  simp [classify, hc, (by omega : 4 ≤ bs.length)]

theorem classify_of_right (bs : List Byte) (h : 6 ≤ bs.length) (hc : crcRight bs = true) :
    classify bs = ((frameRules bs).map .good).getD .formatError := by
  rw [classify, if_neg (by omega), if_neg (by omega), if_pos hc]
  cases frameRules bs <;> rfl

/-- A frame is GOOD when it is long enough, its CRC is right and the frame rules hold. -/
theorem classify_eq_good_iff (bs : List Byte) (d : Decoded) :
    classify bs = .good d ↔ 6 ≤ bs.length ∧ crcRight bs = true ∧ frameRules bs = some d := by
  by_cases h4 : bs.length < 4
  · simp only [classify_of_fragment bs h4, reduceCtorEq, false_iff]
    omega
  · by_cases h6 : bs.length < 6
    · simp only [classify_of_short bs (by omega) h6, reduceCtorEq, false_iff]
      omega
    · cases hc : crcRight bs
      · simp [classify_of_wrong bs (by omega) hc]
      · rw [classify_of_right bs (by omega) hc]
        cases frameRules bs <;> simp; omega

theorem frameRules_eq_some_iff (bs : List Byte) (d : Decoded) : frameRules bs = some d ↔
    ∃ k, frameKind bs = some k ∧ frameByte bs 1 / 16 = 0 ∧ bs.length = k.frameBytes ∧ frameSender bs ≠ 0 ∧
      decodeFields k bs = some d := by
  have version : bitsOf (frameByte bs 1) 4 4 = frameByte bs 1 / 16 := by
    have := frameByte_le bs 1
    rw [bitsOf_eq]
    omega
  unfold frameRules
  rw [version]
  cases frameKind bs with
  | none => simp
  | some k => simp [and_assoc]

theorem frameKind_eq (bs : List Byte) : frameKind bs = match byteAt bs 0 % 16 with
    | 1 => some .announce | 2 => some .intent | 3 => some .check | 4 => some .leave | 8 => some .settle | _ => none := by
  have low : bitsOf (frameByte bs 1) 0 4 = byteAt bs 0 % 16 := by simp [bitsOf_eq, frameByte]
  unfold frameKind
  rw [low]
  rfl

theorem frameSender_eq (bs : List Byte) : frameSender bs = frameByte bs 2 % 32 := by
  simp [frameSender, bitsOf_eq]

/-! ### The fields of each kind -/

/-- The attach state of a code other than 3 (R44). -/
def announcedAt (c : Nat) : AnnouncedState :=
  match c with | 0 => .listening | 1 => .joining | _ => .member

/-- The margin class of a code other than 3 (R46). -/
def marginAt (c : Nat) : MarginClass :=
  match c with | 0 => .negative | 1 => .zero | _ => .positive

theorem announcedOfCode_eq (c : Nat) (h : c < 4) : announcedOfCode c = if c = 3 then none else some (announcedAt c) := by
  interval_cases c <;> rfl

theorem marginOfCode_eq (c : Nat) (h : c < 4) : marginOfCode c = if c = 3 then none else some (marginAt c) := by
  interval_cases c <;> rfl

theorem decodeAnnounce_eq_some_iff (bs : List Byte) (d : Decoded) : decodeAnnounce bs = some d ↔
    (frameWord bs 6 ≤ 4095 ∧ frameWord bs 8 ≤ 4095 ∧ frameWord bs 11 ≤ 4095 ∧
      (frameByte bs 5 / 4 % 2 = 1 → 1 ≤ frameWord bs 11) ∧ frameByte bs 5 % 4 ≠ 3) ∧
    d = .announce
      { attach := announcedAt (frameByte bs 5 % 4), profile := frameByte bs 5 / 8 % 8, committed := frameWord bs 6
        floor := frameWord bs 8
        openIntent := if frameByte bs 5 / 4 % 2 = 1 then some (frameByte bs 10, frameWord bs 11) else none
        digest := frameWord bs 13 } := by
  have attach : bitsOf (frameByte bs 5) 0 2 = frameByte bs 5 % 4 := by simp [bitsOf_eq]
  have flag : bitsOf (frameByte bs 5) 2 1 = frameByte bs 5 / 4 % 2 := rfl
  have profile : bitsOf (frameByte bs 5) 3 3 = frameByte bs 5 / 8 % 8 := rfl
  unfold decodeAnnounce announceOpen
  rw [attach, flag, profile, announcedOfCode_eq _ (Nat.mod_lt _ (by decide))]
  by_cases h3 : frameByte bs 5 % 4 = 3
  · simp [h3]
  · simp only [h3, if_false, not_false_eq_true, ne_eq, and_true, Option.ite_none_right_eq_some, Option.some.injEq, @eq_comm _ d]

theorem decodeIntent_eq_some_iff (bs : List Byte) (d : Decoded) : decodeIntent bs = some d ↔
    (frameWord bs 6 ≤ 4095 ∧ frameWord bs 8 ≤ 4095 ∧ frameWord bs 10 ≤ 4095 ∧ 1 ≤ frameWord bs 6 ∧
      1 ≤ frameWord bs 8 ∧ frameWord bs 8 ≤ frameWord bs 6) ∧
    d = .intent
      { number := frameByte bs 5, delta := frameWord bs 6, deltaMin := frameWord bs 8, committedBefore := frameWord bs 10 } := by
  simp only [decodeIntent, Option.ite_none_right_eq_some, Option.some.injEq, @eq_comm _ d]

/-- The rules of R48 for an outcome code and a margin code. -/
theorem settleRules_iff (o m granted : Nat) (ho : o < 4) (hm : m < 3) :
    settleRules (outcomeOfCode o) (marginAt m) granted = true ↔
      (o = 0 → 1 ≤ m ∧ 1 ≤ granted) ∧ (o ≠ 0 → granted = 0) := by
  interval_cases o <;> interval_cases m <;> simp [outcomeOfCode, marginAt, settleRules]

theorem keptMargin_eq (o : Nat) (m : MarginClass) (ho : o < 4) :
    keptMargin (outcomeOfCode o) m = if 2 ≤ o then none else some m := by
  interval_cases o <;> rfl

theorem decodeSettle_eq_some_iff (bs : List Byte) (d : Decoded) : decodeSettle bs = some d ↔
    (frameWord bs 7 ≤ 4095 ∧ frameWord bs 9 ≤ 4095 ∧ frameByte bs 6 / 16 % 4 ≠ 3 ∧
      (frameByte bs 6 % 4 = 0 → 1 ≤ frameByte bs 6 / 16 % 4 ∧ 1 ≤ frameWord bs 7) ∧
      (frameByte bs 6 % 4 ≠ 0 → frameWord bs 7 = 0)) ∧
    d = .settle
      { number := frameByte bs 5, outcome := outcomeOfCode (frameByte bs 6 % 4)
        margin := if 2 ≤ frameByte bs 6 % 4 then none else some (marginAt (frameByte bs 6 / 16 % 4))
        granted := frameWord bs 7, committedAfter := frameWord bs 9 } := by
  have outcome : bitsOf (frameByte bs 6) 0 2 = frameByte bs 6 % 4 := by simp [bitsOf_eq]
  have margin : bitsOf (frameByte bs 6) 4 2 = frameByte bs 6 / 16 % 4 := rfl
  have ho : frameByte bs 6 % 4 < 4 := Nat.mod_lt _ (by decide)
  have hm : frameByte bs 6 / 16 % 4 < 4 := Nat.mod_lt _ (by decide)
  unfold decodeSettle
  rw [outcome, margin, marginOfCode_eq _ hm]
  by_cases h3 : frameByte bs 6 / 16 % 4 = 3
  · simp [h3]
  · have hm3 : frameByte bs 6 / 16 % 4 < 3 := by omega
    simp only [h3, if_false, Option.ite_none_right_eq_some, Option.some.injEq, settleRules_iff _ _ _ ho hm3,
      keptMargin_eq _ _ ho, @eq_comm _ d, ne_eq, not_false_eq_true, true_and]

theorem decodeFields_kind (k : FrameKind) (bs : List Byte) (d : Decoded) (h : decodeFields k bs = some d) : d.kind = k := by
  cases k with
  | announce =>
    obtain ⟨-, rfl⟩ := (decodeAnnounce_eq_some_iff bs d).1 h
    rfl
  | intent =>
    obtain ⟨-, rfl⟩ := (decodeIntent_eq_some_iff bs d).1 h
    rfl
  | settle =>
    obtain ⟨-, rfl⟩ := (decodeSettle_eq_some_iff bs d).1 h
    rfl
  | leave => cases h; rfl
  | check => cases h; rfl

/-- R48 rules 5 to 8, kind by kind. -/
theorem exists_decodeFields_iff (k : FrameKind) (bs : List Byte) : (∃ d, decodeFields k bs = some d) ↔
    (k = .announce → frameWord bs 6 ≤ 4095 ∧ frameWord bs 8 ≤ 4095 ∧ frameWord bs 11 ≤ 4095 ∧
      (frameByte bs 5 / 4 % 2 = 1 → 1 ≤ frameWord bs 11) ∧ frameByte bs 5 % 4 ≠ 3) ∧
    (k = .intent → frameWord bs 6 ≤ 4095 ∧ frameWord bs 8 ≤ 4095 ∧ frameWord bs 10 ≤ 4095 ∧ 1 ≤ frameWord bs 6 ∧
      1 ≤ frameWord bs 8 ∧ frameWord bs 8 ≤ frameWord bs 6) ∧
    (k = .settle → frameWord bs 7 ≤ 4095 ∧ frameWord bs 9 ≤ 4095 ∧ frameByte bs 6 / 16 % 4 ≠ 3 ∧
      (frameByte bs 6 % 4 = 0 → 1 ≤ frameByte bs 6 / 16 % 4 ∧ 1 ≤ frameWord bs 7) ∧
      (frameByte bs 6 % 4 ≠ 0 → frameWord bs 7 = 0)) := by
  cases k with
  | announce => simp [decodeFields, decodeAnnounce_eq_some_iff]
  | intent => simp [decodeFields, decodeIntent_eq_some_iff]
  | settle => simp [decodeFields, decodeSettle_eq_some_iff]
  | leave => simp [decodeFields]
  | check => simp [decodeFields]

theorem frameKind_of_good (bs : List Byte) (d : Decoded) (h : classify bs = .good d) : frameKind bs = some d.kind := by
  obtain ⟨-, -, hr⟩ := (classify_eq_good_iff bs d).1 h
  obtain ⟨k, hk, -, -, -, hd⟩ := (frameRules_eq_some_iff bs d).1 hr
  rw [hk, decodeFields_kind k bs d hd]

/-- Settles O12: the CRC by its last byte, and the classification by the frame rules of each kind. -/
theorem classification : Obligations.Classification := by
  refine ⟨⟨rfl, fun bs b => ?_⟩, fun bs => ⟨?_, ?_, rfl, fun i => ⟨rfl, rfl⟩, fun d hd => ?_, classify_of_fragment bs,
    fun h => classify_of_short bs (by omega) (by omega), fun h hc => ?_, fun h hc => ⟨?_, ?_⟩⟩⟩
  · rw [crc_append_singleton, crcByte_eq]
  · exact frameKind_eq bs
  · rw [frameSender_eq]
    rfl
  · obtain ⟨-, -, hr⟩ := (classify_eq_good_iff bs d).1 hd
    obtain ⟨k, hk, -, -, -, hf⟩ := (frameRules_eq_some_iff bs d).1 hr
    refine ⟨k, hk, ?_⟩
    cases k with
    | announce => exact ((decodeAnnounce_eq_some_iff bs d).1 hf).2
    | intent => exact ((decodeIntent_eq_some_iff bs d).1 hf).2
    | settle =>
      have margin : (if 2 ≤ frameByte bs 6 % 4 then none else some (marginAt (frameByte bs 6 / 16 % 4))) =
          if 2 ≤ frameByte bs 6 % 4 then none else
            match frameByte bs 6 / 16 % 4 with | 0 => some .negative | 1 => some .zero | _ => some .positive := by
        unfold marginAt
        (repeat' split) <;> rfl
      rw [((decodeSettle_eq_some_iff bs d).1 hf).2, margin]
      rfl
    | leave => cases hf; rfl
    | check => cases hf; rfl
  · exact classify_of_wrong bs h (beq_eq_false_iff_ne.2 hc)
  · rw [classify_of_right bs h (beq_iff_eq.2 hc)]
    cases frameRules bs with
    | none => exact .inl rfl
    | some d => exact .inr ⟨d, rfl⟩
  · have right : crcRight bs = true := beq_iff_eq.2 hc
    simp only [classify_eq_good_iff, frameRules_eq_some_iff, frameSender_eq, h, right, true_and,
      ← exists_decodeFields_iff]
    constructor
    · rintro ⟨d, k, hk, hv, hl, hs, hd⟩
      exact ⟨k, hk, hv, hl, hs, d, hd⟩
    · rintro ⟨k, hk, hv, hl, hs, d, hd⟩
      exact ⟨d, k, hk, hv, hl, hs, hd⟩

/-! ### What is built reads back -/

section build

variable (k : FrameKind) (id count : Nat) (payload : List Byte)

theorem frameByte_one_build : frameByte (buildFrame k id count payload) 1 = k.code := by
  cases k <;> rfl

theorem frameKind_build : frameKind (buildFrame k id count payload) = some k := by
  unfold frameKind
  rw [frameByte_one_build]
  cases k <;> rfl

theorem frameSender_build (h : id ≤ 31) : frameSender (buildFrame k id count payload) = id := by
  have byte : frameByte (buildFrame k id count payload) 2 = (u8 id).toNat := rfl
  rw [frameSender_eq, byte, u8_toNat]
  omega

theorem frameCount_build (h : count ≤ 65535) : frameCount (buildFrame k id count payload) = count := u8_word count h

theorem length_build : (buildFrame k id count payload).length = payload.length + 6 := by
  simp [buildFrame, header, u16]

/-- A built frame of the length of its kind is GOOD with the fields that its bytes decode to. -/
theorem classify_build (d : Decoded) (hl : payload.length + 6 = k.frameBytes) (h1 : 1 ≤ id) (h31 : id ≤ 31)
    (hd : decodeFields k (buildFrame k id count payload) = some d) : classify (buildFrame k id count payload) = .good d := by
  refine (classify_eq_good_iff _ d).2 ⟨?_, crcRight_append_crc _, (frameRules_eq_some_iff _ d).2
    ⟨k, frameKind_build k id count payload, ?_, ?_, ?_, hd⟩⟩
  · rw [length_build]
    omega
  · rw [frameByte_one_build]
    cases k <;> rfl
  · rw [length_build, hl]
  · rw [frameSender_build k id count payload h31]
    omega

end build

/-- The state byte of an ANNOUNCE: attach code, intent flag and profile. -/
theorem stateByte_parts (a o p : Nat) (ha : a < 3) (ho : o ≤ 1) (hp : p ≤ 7) :
    (u8 (a + 4 * o + 8 * p)).toNat % 4 = a ∧ (u8 (a + 4 * o + 8 * p)).toNat / 4 % 2 = o ∧
      (u8 (a + 4 * o + 8 * p)).toNat / 8 % 8 = p := by
  rw [u8_toNat]
  omega

theorem announcedAt_code (a : AnnouncedState) : announcedAt a.code = a := by cases a <;> rfl

theorem classify_announce (id count : Nat) (f : AnnounceFields) (h1 : 1 ≤ id) (h31 : id ≤ 31) (hp : f.profile ≤ 7)
    (hc : f.committed ≤ 4095) (hf : f.floor ≤ 4095) (hd : f.digest ≤ 65535)
    (ho : ∀ n d, f.openIntent = some (n, d) → n ≤ 255 ∧ 1 ≤ d ∧ d ≤ 4095) :
    classify (buildFrame .announce id count (announcePayload f)) = .good (.announce f) := by
  refine classify_build _ _ _ _ _ rfl h1 h31 ((decodeAnnounce_eq_some_iff _ _).2 ?_)
  generalize hF : buildFrame .announce id count (announcePayload f) = F
  have code : f.attach.code < 3 := by cases f.attach <;> decide
  have committed : frameWord F 6 = f.committed := by subst hF; exact u8_word _ (by omega)
  have floor : frameWord F 8 = f.floor := by subst hF; exact u8_word _ (by omega)
  have digest : frameWord F 13 = f.digest := by subst hF; exact u8_word _ hd
  have state : frameByte F 5 = (u8 (f.attach.code + (if f.openIntent.isSome then 4 else 0) + 8 * f.profile)).toNat := by
    subst hF; rfl
  have number : frameByte F 10 = (u8 ((f.openIntent.map Prod.fst).getD 0)).toNat := by subst hF; rfl
  have delta : frameWord F 11 = (f.openIntent.map Prod.snd).getD 0 := by
    subst hF
    refine u8_word _ ?_
    cases h : f.openIntent with
    | none => simp
    | some i =>
      obtain ⟨-, -, hd⟩ := ho i.1 i.2 h
      simp only [Option.map_some, Option.getD_some]
      omega
  cases h : f.openIntent with
  | none =>
    obtain ⟨attach, flag, profile⟩ := stateByte_parts f.attach.code 0 f.profile code (by decide) hp
    simp only [h, Option.isSome_none, Bool.false_eq_true, if_false, Option.map_none, Option.getD_none] at state delta
    rw [committed, floor, digest, state, delta, attach, flag, profile, announcedAt_code]
    refine ⟨⟨hc, hf, by decide, by simp, by omega⟩, ?_⟩
    rw [if_neg (by decide), ← h]
  | some i =>
    obtain ⟨hn, hd1, hd2⟩ := ho i.1 i.2 h
    obtain ⟨attach, flag, profile⟩ := stateByte_parts f.attach.code 1 f.profile code (by decide) hp
    simp only [h, Option.isSome_some, if_true, Option.map_some, Option.getD_some] at state delta number
    rw [u8_toNat, Nat.mod_eq_of_lt (by omega)] at number
    rw [committed, floor, digest, state, delta, number, attach, flag, profile, announcedAt_code]
    refine ⟨⟨hc, hf, hd2, fun _ => hd1, by omega⟩, ?_⟩
    rw [if_pos rfl, ← h]

theorem classify_intent (id count : Nat) (f : IntentFields) (h1 : 1 ≤ id) (h31 : id ≤ 31) (hn : f.number ≤ 255)
    (hd : f.delta ≤ 4095) (hm : 1 ≤ f.deltaMin) (hmd : f.deltaMin ≤ f.delta) (hb : f.committedBefore ≤ 4095) :
    classify (buildFrame .intent id count (intentPayload f)) = .good (.intent f) := by
  refine classify_build _ _ _ _ _ rfl h1 h31 ((decodeIntent_eq_some_iff _ _).2 ?_)
  generalize hF : buildFrame .intent id count (intentPayload f) = F
  have number : frameByte F 5 = f.number := by
    subst hF
    exact (u8_toNat _).trans (Nat.mod_eq_of_lt (by omega))
  have delta : frameWord F 6 = f.delta := by subst hF; exact u8_word _ (by omega)
  have deltaMin : frameWord F 8 = f.deltaMin := by subst hF; exact u8_word _ (by omega)
  have before : frameWord F 10 = f.committedBefore := by subst hF; exact u8_word _ (by omega)
  rw [number, delta, deltaMin, before]
  exact ⟨⟨hd, by omega, hb, by omega, hm, hmd⟩, rfl⟩

theorem MarginClass.code_lt (m : MarginClass) : m.code < 3 := by cases m <;> decide

theorem marginAt_code (m : MarginClass) : marginAt m.code = m := by cases m <;> rfl

/-- The outcome byte of a SETTLE: outcome code and margin code. -/
theorem outcomeByte_parts (o m : Nat) (ho : o ≤ 3) (hm : m ≤ 2) :
    (u8 (o + 16 * m)).toNat % 4 = o ∧ (u8 (o + 16 * m)).toNat / 16 % 4 = m := by
  rw [u8_toNat]
  omega

theorem classify_settle (id count : Nat) (f : SettleFields) (h1 : 1 ≤ id) (h31 : id ≤ 31) (hn : f.number ≤ 255)
    (hg : f.granted ≤ 4095) (hc : f.committedAfter ≤ 4095)
    (granted : f.outcome = .granted → (f.margin = some .zero ∨ f.margin = some .positive) ∧ 1 ≤ f.granted)
    (refused : f.outcome = .refused → f.margin.isSome = true)
    (other : f.outcome = .deferred ∨ f.outcome = .withdrawn → f.margin = none) (zero : f.outcome ≠ .granted → f.granted = 0) :
    classify (buildFrame .settle id count (settlePayload f)) = .good (.settle f) := by
  refine classify_build _ _ _ _ _ rfl h1 h31 ((decodeSettle_eq_some_iff _ _).2 ?_)
  generalize hF : buildFrame .settle id count (settlePayload f) = F
  have number : frameByte F 5 = f.number := by
    subst hF
    exact (u8_toNat _).trans (Nat.mod_eq_of_lt (by omega))
  have grant : frameWord F 7 = f.granted := by subst hF; exact u8_word _ (by omega)
  have after : frameWord F 9 = f.committedAfter := by subst hF; exact u8_word _ (by omega)
  have byte : frameByte F 6 = (u8 (f.outcome.code + 16 * (f.margin.map MarginClass.code).getD 0)).toNat := by subst hF; rfl
  have margin : (f.margin.map MarginClass.code).getD 0 ≤ 2 := by
    cases f.margin with
    | none => exact Nat.zero_le _
    | some m => exact Nat.le_of_lt_succ m.code_lt
  obtain ⟨ho, hm⟩ := outcomeByte_parts f.outcome.code ((f.margin.map MarginClass.code).getD 0)
    (by cases f.outcome <;> decide) margin
  rw [number, grant, after, byte, ho, hm]
  obtain ⟨n, o, m, g, c⟩ := f
  cases o with
  | granted =>
    obtain ⟨hmargin, hpos⟩ := granted rfl
    rcases hmargin with rfl | rfl
    · exact ⟨⟨hg, hc, (by decide : 1 ≠ 3), fun _ => ⟨(by decide : 1 ≤ 1), hpos⟩, fun h => absurd rfl h⟩, rfl⟩
    · exact ⟨⟨hg, hc, (by decide : 2 ≠ 3), fun _ => ⟨(by decide : 1 ≤ 2), hpos⟩, fun h => absurd rfl h⟩, rfl⟩
  | refused =>
    obtain ⟨m, rfl⟩ := Option.isSome_iff_exists.1 (refused rfl)
    refine ⟨⟨hg, hc, m.code_lt.ne, fun h => (nomatch h), fun _ => zero (fun h => (nomatch h))⟩, ?_⟩
    change _ = Decoded.settle ⟨n, .refused, some (marginAt m.code), g, c⟩
    rw [marginAt_code]
  | deferred =>
    obtain rfl : m = none := other (.inl rfl)
    exact ⟨⟨hg, hc, (by decide : 0 ≠ 3), fun h => (nomatch h), fun _ => zero (fun h => (nomatch h))⟩, rfl⟩
  | withdrawn =>
    obtain rfl : m = none := other (.inr rfl)
    exact ⟨⟨hg, hc, (by decide : 0 ≠ 3), fun h => (nomatch h), fun _ => zero (fun h => (nomatch h))⟩, rfl⟩

/-! ### The pattern words -/

theorem length_checkPayload (words : List Nat) : (checkPayload words).length = 2 * words.length := by
  induction words with
  | nil => rfl
  | cons w ws ih =>
    have : checkPayload (w :: ws) = u16 w ++ checkPayload ws := rfl
    rw [this, List.length_append, ih, List.length_cons]
    change 2 + _ = _
    omega

theorem wordAt_checkPayload (words : List Nat) (rest : List Byte) (hw : ∀ w ∈ words, w ≤ 65535) (k : Nat)
    (hk : k < words.length) : wordAt (checkPayload words ++ rest) (2 * k) = words[k] := by
  induction words generalizing k with
  | nil => simp at hk
  | cons w ws ih =>
    have split : checkPayload (w :: ws) ++ rest = u16 w ++ (checkPayload ws ++ rest) := rfl
    rw [split]
    cases k with
    | zero => exact u8_word w (hw w (List.mem_cons_self ..))
    | succ k =>
      have := wordAt_append_right (u16 w) (checkPayload ws ++ rest) (2 * k)
      rw [show 2 * (k + 1) = (u16 w).length + 2 * k by change _ = 2 + _; omega, this]
      exact ih (fun x hx => hw x (List.mem_cons_of_mem _ hx)) k (by simpa using hk)

theorem readBackWords_build (id count : Nat) (words : List Nat) (hl : words.length = 8) (hw : ∀ w ∈ words, w ≤ 65535) :
    readBackWords (buildFrame .check id count (checkPayload words)) = words := by
  refine List.ext_getElem (by simp [readBackWords, hl]) fun k hk hk' => ?_
  have front : buildFrame .check id count (checkPayload words) = header .check id count ++ (checkPayload words ++
      u16 (crc (header .check id count ++ checkPayload words)).toNat) := List.append_assoc ..
  have word := wordAt_append_right (header .check id count) (checkPayload words ++
      u16 (crc (header .check id count ++ checkPayload words)).toNat) (2 * k)
  rw [wordAt_checkPayload words _ hw k hk'] at word
  simp only [readBackWords, List.getElem_map, List.getElem_range, front]
  rw [← word]
  unfold frameWord
  congr 1
  change 5 + 2 * k - 1 = 4 + 2 * k
  omega

/-- Settles O13: the bytes by the definitions, and the reading back kind by kind. -/
theorem framesRoundTrip : Obligations.FramesRoundTrip := by
  refine ⟨⟨fun k id count payload front hf => ?_, fun f => ?_, fun f => rfl, fun f => ?_, fun words => rfl⟩,
    fun id count h1 h31 hcount => ⟨fun f hp hc hf hd ho => classify_announce id count f h1 h31 hp hc hf hd ho,
      fun f hn hd hm hmd hb => classify_intent id count f h1 h31 hn hd hm hmd hb,
      fun f hn hg hc hgr hre hot hz => classify_settle id count f h1 h31 hn hg hc hgr hre hot hz,
      classify_build _ _ _ _ _ rfl h1 h31 rfl,
      fun words hl hw => ⟨classify_build _ _ _ _ _ ?_ h1 h31 rfl, readBackWords_build id count words hl hw⟩,
      fun k payload => ⟨frameSender_build k id count payload h31, frameCount_build k id count payload hcount⟩⟩⟩
  · subst hf
    cases k <;> rfl
  · obtain ⟨a, p, c, f, d, o⟩ := f
    cases a <;> cases o <;> rfl
  · obtain ⟨n, o, m, g, c⟩ := f
    rcases m with _ | m
    · cases o <;> rfl
    · cases m <;> cases o <;> rfl
  · rw [length_checkPayload, hl]
    rfl

end Sys2Proof.Machine
end

section
/-! ## Cells: a frame on the line reads back as its bytes (O14) -/

namespace Sys2Proof.Machine

theorem wired_eq_dominant_iff (drives : List Level) : wired drives = .dominant ↔ .dominant ∈ drives := by
  simp [wired]

theorem wired_eq_recessive_iff (drives : List Level) : wired drives = .recessive ↔ .dominant ∉ drives := by
  simp [wired]

theorem cellBit_bitCell (b : Bool) : cellBit (bitCell b) = some b := by cases b <;> rfl

theorem byteOfBits_bitsLsbFirst : ∀ b : Byte, byteOfBits (bitsLsbFirst b) = b := by decide +kernel

theorem bitsLsbFirst_length (b : Byte) : (bitsLsbFirst b).length = 8 := by simp [bitsLsbFirst]

/-! ### Reading the cells after a SOD -/

/-- A cell of unequal halves is a data bit. -/
theorem readCells_bit (b : Bool) (cs : List Cell) (n : Nat) (bits : List Bool) (h : bits.length < 7) :
    readCells (bitCell b :: cs) n bits = readCells cs n (bits ++ [b]) := by
  cases cs <;> simp [readCells, cellBit_bitCell, h]

theorem readCells_bits (more : List Bool) (cs : List Cell) (n : Nat) (bits : List Bool) (h : bits.length + more.length < 8) :
    readCells (more.map bitCell ++ cs) n bits = readCells cs n (bits ++ more) := by
  induction more generalizing bits with
  | nil => simp
  | cons b more ih =>
    rw [List.length_cons] at h
    rw [List.map_cons, List.cons_append, readCells_bit _ _ _ _ (by omega), ih _ (by simp; omega)]
    simp

/-- The eighth bit completes a byte. -/
theorem readCells_eighth (b : Bool) (cs : List Cell) (n : Nat) (bits : List Bool) (h : bits.length = 7) :
    readCells (bitCell b :: cs) n bits =
      if n < 24 then .wholeByte (byteOfBits (bits ++ [b])) :: readCells cs (n + 1) [] else [.tooLong] := by
  cases cs <;> simp [readCells, cellBit_bitCell, h]

theorem readCells_byte (b : Byte) (cs : List Cell) (n : Nat) :
    readCells (byteCells b ++ cs) n [] =
      if n < 24 then .wholeByte b :: readCells cs (n + 1) [] else [.tooLong] := by
  have split : bitsLsbFirst b = (List.range 7).map b.getLsbD ++ [b.getLsbD 7] := rfl
  have cells : byteCells b ++ cs = ((List.range 7).map b.getLsbD).map bitCell ++ (bitCell (b.getLsbD 7) :: cs) := rfl
  rw [cells, readCells_bits _ _ _ _ (by simp), List.nil_append, readCells_eighth _ _ _ _ (by simp), ← split,
    byteOfBits_bitsLsbFirst]

theorem readCells_bytes (bs : List Byte) (cs : List Cell) (n : Nat) (h : n + bs.length ≤ 24) :
    readCells (bs.flatMap byteCells ++ cs) n [] = bs.map .wholeByte ++ readCells cs (n + bs.length) [] := by
  induction bs generalizing n with
  | nil => rfl
  | cons b bs ih =>
    rw [List.length_cons] at h
    rw [List.flatMap_cons, List.append_assoc, readCells_byte, if_pos (by omega), ih _ (by omega), List.length_cons,
      show n + 1 + bs.length = n + (bs.length + 1) by omega]
    rfl

/-- A cell of equal halves that opens no EOD is a violation. -/
theorem readCells_violation (c : Cell) (rest : List Cell) (n : Nat) (bits : List Bool)
    (h : c = recessiveCell ∨ (c = dominantCell ∧ bits ≠ []) ∨
      (c = dominantCell ∧ ∃ c1 more, c1 ≠ recessiveCell ∧ (rest = c1 :: more ∨ rest = recessiveCell :: c1 :: more))) :
    readCells (c :: rest) n bits = [.violation] := by
  rcases h with rfl | ⟨rfl, hb⟩ | ⟨rfl, c1, more, h1, rfl | rfl⟩
  · rfl
  · simp [readCells, cellBit, dominantCell, hb]
  · cases more with
    | nil => simp [readCells, cellBit, dominantCell, h1]
    | cons c2 more => simp [readCells, cellBit, dominantCell, h1]
  · simp [readCells, cellBit, dominantCell, h1]

theorem readStart_frame (cs : List Cell) : readStart (sodCells ++ cs) = .startDelimiter :: readCells cs 0 [] := rfl

/-- A first cell that opens no SOD. -/
theorem readStart_malformed (c1 : Cell) (rest : List Cell) (h : c1 ≠ dominantCell) :
    readStart (c1 :: rest) = [.malformedStart] := by
  cases rest <;> simp [readStart, h]

theorem readStart_malformed_second (c1 c2 : Cell) (rest : List Cell) (h : c2 ≠ recessiveCell) :
    readStart (c1 :: c2 :: rest) = [.malformedStart] := by
  simp [readStart, h]

theorem readStart_frameCells (bs : List Byte) (h : bs.length ≤ 24) :
    readStart (frameCells bs) = .startDelimiter :: (bs.map .wholeByte ++ [.endDelimiter]) := by
  rw [frameCells, List.append_assoc, readStart_frame, readCells_bytes _ _ _ (by omega)]
  rfl

/-- The twenty-fifth byte is the last that is read. -/
theorem readStart_frameCells_tooLong (bs : List Byte) (h : 25 ≤ bs.length) :
    readStart (frameCells bs) = .startDelimiter :: ((bs.take 24).map .wholeByte ++ [.tooLong]) := by
  obtain ⟨b, rest, hb⟩ : ∃ b rest, bs.drop 24 = b :: rest :=
    List.exists_cons_of_ne_nil (by simp; omega)
  have split : bs.flatMap byteCells = (bs.take 24).flatMap byteCells ++ (byteCells b ++ rest.flatMap byteCells) := by
    conv_lhs => rw [← List.take_append_drop 24 bs, hb, List.flatMap_append, List.flatMap_cons]
  have full : (bs.take 24).length = 24 := List.length_take_of_le (by omega)
  rw [frameCells, List.append_assoc, readStart_frame, split, List.append_assoc, List.append_assoc,
    readCells_bytes _ _ _ (by omega), readCells_byte, full]
  rfl

theorem length_frameCells (bs : List Byte) : (frameCells bs).length = 2 + 8 * bs.length + 3 := by
  have bytes : (bs.flatMap byteCells).length = 8 * bs.length := by
    induction bs with
    | nil => rfl
    | cons b bs ih =>
      rw [List.flatMap_cons, List.length_append, ih, byteCells, List.length_map, bitsLsbFirst_length, List.length_cons]
      omega
  simp [frameCells, sodCells, eodCells, bytes]
  omega

/-- Settles O14: the level of the wire, the two shapes of a start, the violations and the whole frame. -/
theorem cellsRoundTrip : Obligations.CellsRoundTrip := by
  refine ⟨fun drives => ⟨wired_eq_dominant_iff drives, wired_eq_recessive_iff drives⟩,
    fun c1 c2 rest h1 => ⟨fun h2 => ?_, fun _ h => ?_⟩,
    fun bs bits c rest hbs hbits h => ?_, fun bs => ⟨?_, length_frameCells bs, readStart_frameCells bs,
    readStart_frameCells_tooLong bs⟩⟩
  · exact readStart_malformed c1 rest fun h => by rw [h] at h2; cases h2
  · exact readStart_malformed_second c1 c2 rest h
  · change readStart (sodCells ++ bs.flatMap byteCells ++ bits.map bitCell ++ c :: rest) = _
    rw [List.append_assoc, List.append_assoc, readStart_frame, readCells_bytes _ _ _ (by omega),
      readCells_bits _ _ _ _ (by simpa using hbits), List.nil_append, readCells_violation c rest _ bits h]
  · rfl

end Sys2Proof.Machine
end

section
/-! ## The Link Receiver: starts, broken frames, whole bytes and the end of a frame (O6 to O11) -/

namespace Sys2Proof.Machine

theorem recordOf_short (bs : List Byte) (own : Bool) (n : Nat) (c : Content) (h : bs.length < 4) :
    recordOf bs own n c = { own := own, kind := none, sender := none, length := n, content := c } := if_pos h

theorem recordOf_long (bs : List Byte) (own : Bool) (n : Nat) (c : Content) (h : 4 ≤ bs.length) :
    recordOf bs own n c = { own := own, kind := frameKind bs, sender := some (frameSender bs), length := n, content := c } :=
  if_neg (by omega)

/-- Kind and sender are there with 4 whole bytes or more (R11). -/
theorem recordOf_eq_ite (bs : List Byte) (own : Bool) (n : Nat) (c : Content) : recordOf bs own n c =
    { own := own, length := n, kind := if 4 ≤ bs.length then frameKind bs else none
      sender := if 4 ≤ bs.length then some (frameSender bs) else none, content := c } := by
  by_cases h : 4 ≤ bs.length
  · rw [recordOf_long bs own n c h, if_pos h, if_pos h]
  · rw [recordOf_short bs own n c (by omega), if_neg h, if_neg h]

namespace State

variable (s : State)

/-! ### The frame start -/

theorem lineIdleDue_of_not_idle (h : s.pins.sdl ≠ none ∨ s.ltx.recessive < 2 * s.bitTime) : s.lineIdleDue = false :=
  Bool.eq_false_iff.2 fun hd => by
    obtain ⟨hs, hr, -⟩ := s.lineIdleDue_eq_true_iff.1 hd
    rcases h with h | h
    · exact h hs
    · omega

theorem lineIdleDue_of_not_waiting (h : s.lrx.state ≠ .discard) (hh : s.lrx.state ≠ .hunt false)
    (hs : ∀ age, s.lrx.state ≠ .starting age) : s.lineIdleDue = false :=
  Bool.eq_false_iff.2 fun hd => by
    obtain ⟨-, -, hw | hw | ⟨age, hw⟩⟩ := s.lineIdleDue_eq_true_iff.1 hd
    · exact h hw
    · exact hh hw
    · exact hs age hw

/-- The state `u` of the wire that a recognised start leaves: as it stood when its dominant level was told, and two bit times of
dominant level when none was. -/
def StartsFrom (u : State) : Prop :=
  (u = s ∧ ((s.lrx.state = .hunt true ∧ s.pins.sdl ≠ none) ∨ ((s.pins.sdl ≠ none ∨ s.ltx.recessive < 2 * s.bitTime) ∧
    ∃ age, s.lrx.state = .starting age ∧ s.bitTime ≤ 4 * age ∧ 4 * age < 9 * s.bitTime))) ∨
  (u = { s with
      pins := { s.pins with sdl := some (2 * s.bitTime) }, ltx := { s.ltx with recessive := 0, edgeUntold := false } } ∧
    s.pins.sdl = none ∧ (s.lrx.state = .hunt true ∨ (2 * s.bitTime ≤ s.ltx.recessive ∧
      (s.lrx.state = .hunt false ∨ s.lrx.state = .discard ∨ ∃ age, s.lrx.state = .starting age))))

theorem frameStart_of_startsFrom {s u : State} (h : s.StartsFrom u) :
    ∃ t, s.frameStart = some t ∧ ∀ x, t.setLrxState x = { u with lrx := { s.lrx with state := x } } := by
  have started (hs : s.pins.sdl = none) (hseen : s.seesIdle = s.setLrxState (.hunt true)) :
      ∃ t, s.frameStart = some t ∧ ∀ x, t.setLrxState x = { s with
        pins := { s.pins with sdl := some (2 * s.bitTime) }, lrx := { s.lrx with state := x }
        ltx := { s.ltx with recessive := 0, edgeUntold := false } } :=
    ⟨_, (s.frameStart_eq_some_iff _).2 (.inl ⟨by rw [hseen]; rfl, rfl⟩), fun x => by
      rw [hseen, sdlStarted_of_recessive (s.setLrxState (.hunt true)) hs]
      rfl⟩
  have seen_of_hunt (hh : s.lrx.state = .hunt true) : s.seesIdle = s.setLrxState (.hunt true) := by
    rw [s.seesIdle_of_not_due (s.lineIdleDue_of_not_waiting (by simp [hh]) (by simp [hh]) (by simp [hh])), ← hh]
    rfl
  rcases h with ⟨rfl, ⟨hh, hs⟩ | ⟨hn, age, ha, hm⟩⟩ | ⟨rfl, hs, hw⟩
  · obtain ⟨t, ht⟩ := Option.ne_none_iff_exists'.1 hs
    exact ⟨_, (u.frameStart_eq_some_iff _).2 (.inl ⟨by rw [seen_of_hunt hh]; rfl, rfl⟩), fun x => by
      rw [seen_of_hunt hh, sdlStarted_of_dominant (u.setLrxState (.hunt true)) t ht]
      rfl⟩
  · refine ⟨u, (u.frameStart_eq_some_iff _).2 (.inr ⟨age, ?_, (u.mayOpen_eq_true_iff age).2 hm, rfl⟩), fun x => rfl⟩
    rw [u.seesIdle_of_not_due (u.lineIdleDue_of_not_idle hn), ha]
  · rcases hw with hw | ⟨hr, hw⟩
    · exact started hs (seen_of_hunt hw)
    · exact started hs (s.seesIdle_of_due (s.lineIdleDue_eq_true_iff.2 ⟨hs, hr, by tauto⟩))

/-! ### A dominant level -/

/-- The receive state that a dominant level beginning now leads to. -/
theorem seesIdle_lrxAtDominant (x : LrxState) (h :
    (s.lrx.state = .disabled ∧ x = .disabled) ∨ (∃ bs, s.lrx.state = .receiving bs ∧ x = .receiving bs) ∨
    (s.lrx.state = .hunt true ∧ x = .starting 0) ∨
    (s.pins.sdl = none ∧ 2 * s.bitTime ≤ s.ltx.recessive ∧
      (s.lrx.state = .hunt false ∨ s.lrx.state = .discard ∨ ∃ age, s.lrx.state = .starting age) ∧ x = .starting 0) ∨
    ((s.pins.sdl ≠ none ∨ s.ltx.recessive < 2 * s.bitTime) ∧
      ((s.lrx.state = .hunt false ∧ x = .hunt false) ∨ (s.lrx.state = .discard ∧ x = .discard) ∨
        ∃ age, s.lrx.state = .starting age ∧
          x = if s.bitTime ≤ 4 * age ∧ 4 * age < 9 * s.bitTime then .starting age else .hunt false))) :
    s.seesIdle.lrxAtDominant = x := by
  rcases h with ⟨hs, rfl⟩ | ⟨bs, hs, rfl⟩ | ⟨hs, rfl⟩ | ⟨hn, hr, hw, rfl⟩ | ⟨hn, hw⟩
  · rw [s.seesIdle_of_not_due (s.lineIdleDue_of_not_waiting (by simp [hs]) (by simp [hs]) (by simp [hs]))]
    simp [lrxAtDominant, hs]
  · rw [s.seesIdle_of_not_due (s.lineIdleDue_of_not_waiting (by simp [hs]) (by simp [hs]) (by simp [hs]))]
    simp [lrxAtDominant, hs]
  · rw [s.seesIdle_of_not_due (s.lineIdleDue_of_not_waiting (by simp [hs]) (by simp [hs]) (by simp [hs]))]
    simp [lrxAtDominant, hs]
  · rw [s.seesIdle_of_due (s.lineIdleDue_eq_true_iff.2 ⟨hn, hr, by tauto⟩)]
    rfl
  · rw [s.seesIdle_of_not_due (s.lineIdleDue_of_not_idle hn)]
    rcases hw with ⟨hs, rfl⟩ | ⟨hs, rfl⟩ | ⟨age, hs, rfl⟩
    · simp [lrxAtDominant, hs]
    · simp [lrxAtDominant, hs]
    · simp [lrxAtDominant, hs, mayOpen_eq_true_iff]

/-! ### The Receive Status Queue -/

theorem handRecord_of_free (r : FrameRecord) (ho : s.lrx.checkOnly = false) (hl : s.rsq.records.length < 8) :
    s.handRecord r = s.appendRecord r := by simp [handRecord, ho, hl]

theorem handRecord_of_full (r : FrameRecord) (ho : s.lrx.checkOnly = false) (hl : 8 ≤ s.rsq.records.length) :
    s.handRecord r = s.overrun := by simp [handRecord, ho, Nat.not_lt.2 hl]

/-- The alarms and the pins and registers of LTX do not meet. -/
theorem fire_setPins_setLtx (p : Pins) (l : Ltx) (k : AlarmKind) :
    fire k ((s.setPins p).setLtx l) = ((fire k s).setPins p).setLtx l := by
  unfold fire
  by_cases hk : holdsKind s.au.flags k = true
  · rw [if_pos hk, if_pos (by exact hk)]
  · by_cases hm : holdsKind s.au.forceMask k = true
    · rw [if_neg hk, if_neg (by exact hk), if_pos hm, if_pos (by exact hm)]
      rfl
    · rw [if_neg hk, if_neg (by exact hk), if_neg hm, if_neg (by exact hm)]
      rfl

theorem handRecord_setPins_setLtx (p : Pins) (l : Ltx) (r : FrameRecord) :
    ((s.setPins p).setLtx l).handRecord r = ((s.handRecord r).setPins p).setLtx l := by
  unfold handRecord
  by_cases ho : s.lrx.checkOnly = true
  · rw [if_pos ho, if_pos (by exact ho)]
  · by_cases hl : s.rsq.records.length < 8
    · rw [if_neg ho, if_neg (by exact ho), if_pos hl, if_pos (by exact hl)]
      rfl
    · rw [if_neg ho, if_neg (by exact ho), if_neg hl, if_neg (by exact hl)]
      exact fire_setPins_setLtx ((s.setRsq { s.rsq with pendingLoss := min 255 (s.rsq.pendingLoss + 1) }).setCounters
        { s.lport.counters with lost := bump s.lport.counters.lost }) p l .framesLost

theorem appended_of_bad (c : Counters) (x : Content) (h : ∀ mm d, x ≠ .good mm d) :
    c.appended x = { c with error := min 65535 (c.error + 1) } := by
  cases x with
  | good mm d => exact absurd rfl (h mm d)
  | crcError | symbolError | tooLong | fragment | formatError => rfl

/-! ### The end of a frame -/

theorem handOff_of_announce (bs : List Byte) (f : AnnounceFields) (ho : s.lrx.checkOnly = false)
    (ha : s.ltx.announce.isSome = true) (hr : s.view.reference = some (frameSender bs)) :
    s.handOff (.good (.announce f)) bs =
      s.setLtx { s.ltx with announce := some ((s.ownId + 32 - frameSender bs) % 32 * s.slot) } := by
  simp [handOff, alignAnnounce, ho, ha, hr]

theorem handOff_of_other (c : Classified) (bs : List Byte) (h : (∀ f, c ≠ .good (.announce f)) ∨ s.lrx.checkOnly = true ∨
    s.ltx.announce = none ∨ s.view.reference ≠ some (frameSender bs)) : s.handOff c bs = s := by
  unfold handOff
  split
  · rename_i f
    split
    · rfl
    · rename_i ho
      refine if_neg fun ⟨ha, hr⟩ => ?_
      rcases h with h | h | h | h
      · exact h f rfl
      · exact ho h
      · simp [h] at ha
      · exact h hr
  all_goals rfl

/-- The hand-off moves the announce timer alone. -/
theorem handOff_eq (c : Classified) (bs : List Byte) :
    s.handOff c bs = s.setLtx { s.ltx with announce := (s.handOff c bs).ltx.announce } := by
  by_cases h : (∀ f, c ≠ .good (.announce f)) ∨ s.lrx.checkOnly = true ∨ s.ltx.announce = none ∨
      s.view.reference ≠ some (frameSender bs)
  · rw [s.handOff_of_other c bs h]
    rfl
  · simp only [not_or, not_forall, not_not, Bool.not_eq_true] at h
    obtain ⟨⟨f, rfl⟩, ho, ha, hr⟩ := h
    rw [s.handOff_of_announce bs f ho (Option.isSome_iff_ne_none.2 ha) hr]
    rfl

/-- What the hand-off reads: check-only mode, the announce timer, the view and the configuration. -/
theorem handOff_announce_congr {s t : State} (c : Classified) (bs : List Byte) (hlrx : t.lrx.checkOnly = s.lrx.checkOnly)
    (hltx : t.ltx.announce = s.ltx.announce) (hview : t.view = s.view) (hconfig : t.lport.config = s.lport.config) :
    (t.handOff c bs).ltx.announce = (s.handOff c bs).ltx.announce := by
  have own : t.ownId = s.ownId := by simp only [ownId, readConfig, hconfig]
  have slot : t.slot = s.slot := by simp only [slot, period, readConfig, hconfig]
  unfold handOff
  split
  · rw [hlrx]
    split
    · exact hltx
    · simp only [alignAnnounce, hltx, hview, own, slot]
      split
      · rfl
      · exact hltx
  all_goals exact hltx

theorem handOff_eq_of {s t : State} (c : Classified) (bs : List Byte) (hlrx : t.lrx.checkOnly = s.lrx.checkOnly)
    (hltx : t.ltx.announce = s.ltx.announce) (hview : t.view = s.view) (hconfig : t.lport.config = s.lport.config) :
    t.handOff c bs = t.setLtx { t.ltx with announce := (s.handOff c bs).ltx.announce } := by
  rw [t.handOff_eq, handOff_announce_congr c bs hlrx hltx hview hconfig]

theorem checkGood_eq_true_iff (c : Classified) (bs : List Byte) :
    s.checkGood c bs = true ↔ (∃ d, c = .good d) ∧ readBackWords bs = s.pattern := by
  cases c <;> simp [checkGood]

/-- R14: outside check-only mode a GOOD frame of a numbered kind moves the line count. -/
theorem countFrame_of_numbered (d : Decoded) (bs : List Byte) (hd : d.kind ≠ .check) (ho : s.lrx.checkOnly = false) :
    s.countFrame (.good d) bs =
      (some (countStep s.lrx.lineCount (frameCount bs)).1, (countStep s.lrx.lineCount (frameCount bs)).2) := by
  have numbered : d.kind.numbered = true := by cases d <;> simp [Decoded.kind, FrameKind.numbered] at hd ⊢
  simp [countFrame, ho, numbered]

theorem countFrame_of_other (c : Classified) (bs : List Byte)
    (h : c = .good .check ∨ (∀ d, c ≠ .good d) ∨ s.lrx.checkOnly = true) :
    s.countFrame c bs = (s.lrx.lineCount, false) := by
  unfold countFrame
  split
  · rename_i d
    refine if_neg fun ⟨ho, hn⟩ => ?_
    rcases h with h | h | h
    · cases h
      simp [Decoded.kind, FrameKind.numbered] at hn
    · exact h d rfl
    · rw [ho] at h
      cases h
  all_goals rfl

/-- The end of a frame, with what the wire and the hand-off set beside the record. -/
theorem frameEnds_of_recessive (bs : List Byte) : s.sdlTwoCellsRecessive.frameEnds bs =
    (((((s.setLrx { s.lrx with state := .hunt true, lineCount := (s.countFrame (classify bs) bs).1 }).handRecord
      (recordOf bs s.ltx.attempt.isSome bs.length (contentOf (classify bs) (s.countFrame (classify bs) bs).2))).setPins
      { s.pins with sdl := none }).setLtx
      { s.ltx with
        recessive := 2 * s.bitTime, edgeUntold := false
        announce := (s.handOff (classify bs) bs).ltx.announce }).attemptSent (s.checkGood (classify bs) bs)).settle := by
  have handed : (s.sdlTwoCellsRecessive.setLrx
      { s.lrx with state := .hunt true, lineCount := (s.countFrame (classify bs) bs).1 }).handRecord
      (recordOf bs s.ltx.attempt.isSome bs.length (contentOf (classify bs) (s.countFrame (classify bs) bs).2)) =
      (((s.setLrx { s.lrx with state := .hunt true, lineCount := (s.countFrame (classify bs) bs).1 }).handRecord
        (recordOf bs s.ltx.attempt.isSome bs.length (contentOf (classify bs) (s.countFrame (classify bs) bs).2))).setPins
        { s.pins with sdl := none }).setLtx { s.ltx with recessive := 2 * s.bitTime, edgeUntold := false } :=
    handRecord_setPins_setLtx (s.setLrx _) _ _ _
  calc s.sdlTwoCellsRecessive.frameEnds bs
      = ((((s.sdlTwoCellsRecessive.setLrx
          { s.lrx with state := .hunt true, lineCount := (s.countFrame (classify bs) bs).1 }).handRecord
          (recordOf bs s.ltx.attempt.isSome bs.length (contentOf (classify bs) (s.countFrame (classify bs) bs).2))).handOff
          (classify bs) bs).attemptSent (s.checkGood (classify bs) bs)).settle := rfl
    _ = _ := by
      rw [handed]
      exact congrArg (fun t => (attemptSent t (s.checkGood (classify bs) bs)).settle)
        (handOff_eq_of (s := s) _ _ (by simp) rfl (by simp) (by simp))

theorem frameEnds_lineCount (bs : List Byte) : (s.frameEnds bs).lrx.lineCount = (s.countFrame (classify bs) bs).1 := by
  unfold frameEnds
  rw [settle_lrx, attemptSent_lineCount, handOff_eq, setLtx_lrx, handRecord_lrx]
  rfl

/-- A GOOD frame outside check-only mode leaves its record while a slot is free. -/
theorem frameEnds_records (bs : List Byte) (d : Decoded) (hd : classify bs = .good d) (ho : s.lrx.checkOnly = false)
    (hl : s.rsq.records.length < 8) :
    (s.frameEnds bs).rsq.records = s.rsq.records ++ [.frame (recordOf bs s.ltx.attempt.isSome bs.length
      (.good (s.countFrame (classify bs) bs).2 d))] := by
  unfold frameEnds
  rw [settle_rsq, attemptSent_rsq, handOff_eq, setLtx_rsq, handRecord_of_free _ _ (by exact ho) (by exact hl), hd]
  rfl

end State

theorem countStep_next (c n : Nat) (h : n = (c + 1) % 65536) : countStep (some c) n = (n, false) := by
  subst h
  simp [countStep]

theorem countStep_ahead (c n : Nat) (h1 : 1 ≤ (n + 65536 - (c + 1) % 65536) % 65536)
    (h2 : (n + 65536 - (c + 1) % 65536) % 65536 ≤ 32767) : countStep (some c) n = (n, true) := by
  simp only [countStep]
  rw [if_neg (by omega), if_pos h2]

theorem countStep_behind (c n : Nat) (h : 32768 ≤ (n + 65536 - (c + 1) % 65536) % 65536) :
    countStep (some c) n = ((c + 1) % 65536, true) := by
  simp only [countStep]
  rw [if_neg (by omega), if_neg (by omega)]

theorem good_length (bs : List Byte) (d : Decoded) (h : classify bs = .good d) : 4 ≤ bs.length := by
  obtain ⟨hl, -⟩ := (classify_eq_good_iff bs d).1 h
  omega

/-- Settles O6: each command of SDL by the states that LRX and the line can be in. -/
theorem receiverEvents : Obligations.ReceiverEvents := by
  refine ⟨⟨fun s u h => ?_, fun s u h => ?_, fun s x h => ?_⟩, fun s bs hs hb => ?_, fun s bs hs hb => ?_, fun s bs hs hb => ?_⟩
  · obtain ⟨t, ht, hset⟩ := State.frameStart_of_startsFrom (s := s) (u := u) h
    constructor
    · change execStartDelimiter s = _
      simp only [execStartDelimiter, ht, hset]
    · change execMalformedStart s = _
      simp only [execMalformedStart, ht, State.discardFrame, hset]
      rfl
  · have idle : s.lineIdle = true ∧ s.sdlIdle = u := by
      rcases h with ⟨rfl, hn, hr⟩ | ⟨rfl, ⟨t, ht, hr⟩ | ⟨hn, he, hr⟩⟩
      · exact ⟨u.lineIdle_eq_true_iff.2 (.inl ⟨hn, .inr hr⟩), u.sdlIdle_of_recessive hn hr⟩
      · exact ⟨s.lineIdle_eq_true_iff.2 (.inr ⟨t, ht, hr⟩), s.sdlIdle_of_dominant t ht⟩
      · exact ⟨s.lineIdle_eq_true_iff.2 (.inl ⟨hn, .inl he⟩), s.sdlIdle_of_short hr⟩
    obtain ⟨hidle, hu⟩ := idle
    have lrx : u.lrx = s.lrx := by rw [← hu, State.sdlIdle_lrx]
    constructor
    · intro hw
      change execLineIdle s = .next { u with lrx := { s.lrx with state := .hunt true } }
      rw [← lrx]
      rcases hw with hw | ⟨b, hw⟩ | ⟨age, hw⟩ <;> simp only [execLineIdle, hidle, hw, hu, if_true] <;> rfl
    · intro hd
      change execLineIdle s = _
      simp only [execLineIdle, hidle, hd, hu, if_true]
  · change Host.Outcome.next s.seesIdle.sdlTurnsDominant = _
    have hx := s.seesIdle_lrxAtDominant x h
    rcases s.seesIdle_cases with e | e <;> rw [e] at hx ⊢ <;> subst hx <;> rfl
  · change execViolation s = _
    simp only [execViolation, hs, State.discardFrame, if_pos hb, recordOf_short bs _ _ _ hb]
    rfl
  · change execViolation s = _
    simp only [execViolation, hs, State.discardFrame, if_neg (Nat.not_lt.2 hb), recordOf_long bs _ _ _ hb]
    rfl
  · change execTooLong s = _
    simp only [execTooLong, hs, State.discardFrame, if_pos hb, recordOf_long bs _ _ _ (by omega : 4 ≤ bs.length)]
    rfl

/-- Settles O7: check-only mode, a free slot by the content, and the overrun. -/
theorem recordEntersQueue : Obligations.RecordEntersQueue := by
  refine fun s r => ⟨s.handRecord_of_checkOnly r, fun ho hl => ?_, fun ho hl => s.handRecord_of_full r ho hl⟩
  rw [s.handRecord_of_free r ho hl]
  refine ⟨fun d hd => ?_, fun d hd => ?_, fun hb => ?_⟩
  · simp only [State.appendRecord, hd]
    rfl
  · simp only [State.appendRecord, hd]
    rfl
  · simp only [State.appendRecord, State.appended_of_bad _ _ hb]
    rfl

/-- Settles O8: by the tail of what is left. -/
theorem lossPlacement : Obligations.LossPlacement := by
  refine ⟨fun r rest => rfl, fun r front f p hp => ?_, fun r front n p hp => ?_⟩
  · simp [Rsq.removeHead, hp]
  · simp [Rsq.removeHead, hp]

/-- Settles O10: the record, the hand-off and the end of the attempt, in the order of `frameEnds`. -/
theorem endOfFrame : Obligations.EndOfFrame := by
  intro s bs hs
  have ends : exec .endDelimiter s = .next (s.sdlTwoCellsRecessive.frameEnds bs) := by
    change execEndDelimiter s = _
    simp only [execEndDelimiter, hs]
  refine ⟨(s.countFrame (classify bs) bs).1, (s.countFrame (classify bs) bs).2, (s.handOff (classify bs) bs).ltx.announce,
    ?_, fun f hf ho ha hr => ?_, s.checkGood_eq_true_iff _ bs, fun h => ?_⟩
  · rw [ends]
    rw [State.frameEnds_of_recessive, recordOf_eq_ite]
    rfl
  · rw [hf, s.handOff_of_announce bs f ho ha hr]
    rfl
  · rw [s.handOff_of_other _ bs h]

/-- Settles O11: the line count by the distance of the stated count from the expected one. -/
theorem lineCount : Obligations.LineCount := by
  intro s bs hs
  have ends : exec .endDelimiter s = .next (s.sdlTwoCellsRecessive.frameEnds bs) := by
    change execEndDelimiter s = _
    simp only [execEndDelimiter, hs]
  have count : s.sdlTwoCellsRecessive.countFrame (classify bs) bs = s.countFrame (classify bs) bs := rfl
  refine ⟨_, ends, fun d hd hk ho => ?_, fun h => ?_, fun d hd ho hl => ?_⟩
  · rw [State.frameEnds_lineCount, count, hd, s.countFrame_of_numbered d bs hk ho]
    refine ⟨fun hc => ?_, fun c hc => ⟨fun h => ?_, fun h1 h2 => ?_, fun h => ?_⟩⟩
    · simp [hc, countStep]
    · simp [hc, countStep_next c _ h]
    · simp [hc, countStep_ahead c _ h1 h2]
    · simp [hc, countStep_behind c _ h]
  · rw [State.frameEnds_lineCount, count, s.countFrame_of_other _ bs h]
    exact ⟨rfl, rfl⟩
  · have records := s.sdlTwoCellsRecessive.frameEnds_records bs d hd ho hl
    rw [count, recordOf_long _ _ _ _ (good_length bs d hd), frameKind_of_good bs d hd] at records
    exact records

end Sys2Proof.Machine
end

section
/-! ## Whole bytes, and how an attempt ends at its EOD (O9, O19, O20) -/

namespace Sys2Proof.Machine

/-! ### The capture slots -/

namespace Capture

theorem byteRead_of_frozen (c : Capture) (bs : List Byte) (h : c.frozen = true) : c.byteRead bs = c := if_pos h

/-- The second byte of word k fills slot k. -/
theorem byteRead_of_wordEnd (c : Capture) (bs : List Byte) (b : Byte) (k : Nat) (h : c.frozen = false) (hk : k < 8)
    (hl : bs.length = 5 + 2 * k) :
    c.byteRead (bs ++ [b]) = { c with slots := c.slots.set k (some (byteAt bs (4 + 2 * k) + 256 * b.toNat)) } := by
  have len : (bs ++ [b]).length = 6 + 2 * k := by simp [hl]; omega
  have low : byteAt (bs ++ [b]) (4 + 2 * k) = byteAt bs (4 + 2 * k) := byteAt_append_left _ _ _ (by omega)
  have high : byteAt (bs ++ [b]) (5 + 2 * k) = b.toNat := by
    have := byteAt_append_right bs [b] 0
    rwa [hl] at this
  have word : frameWord (bs ++ [b]) (6 + 2 * k - 1) = byteAt bs (4 + 2 * k) + 256 * b.toNat := by
    rw [frameWord, wordAt, show 6 + 2 * k - 1 - 1 = 4 + 2 * k by omega, low, show 4 + 2 * k + 1 = 5 + 2 * k by omega, high]
  have slot : (6 + 2 * k - 6) / 2 = k := by omega
  rw [byteRead, if_neg (by simp [h]), len, if_pos (by omega), slot, word]

theorem byteRead_of_other (c : Capture) (bs : List Byte) (b : Byte) (h : ∀ k < 8, bs.length ≠ 5 + 2 * k) :
    c.byteRead (bs ++ [b]) = c := by
  unfold byteRead
  split
  · rfl
  · refine if_neg fun hl => ?_
    rw [List.length_append, List.length_singleton] at hl
    exact h ((bs.length - 5) / 2) (by omega) (by omega)

end Capture

theorem inFlight_check_eq_true_iff (s : State) : s.inFlight .check = true ↔ ∃ a, s.ltx.attempt = some a ∧ a.kind = .check := by
  simp [State.inFlight, Option.any_eq_true]

/-- A byte before the twenty-fourth is kept. -/
theorem exec_wholeByte (s : State) (bs : List Byte) (b : Byte) (hs : s.lrx.state = .receiving bs) (hl : bs.length < 24) :
    exec (.wholeByte b) s = .next { s with
      lrx := { s.lrx with state := .receiving (bs ++ [b]) }
      ltx := if s.inFlight .check then { s.ltx with capture := s.ltx.capture.byteRead (bs ++ [b]) } else s.ltx } := by
  change execWholeByte b s = _
  simp only [execWholeByte, hs, if_pos hl]
  split <;> rfl

/-- Settles O9: the twenty-fifth byte, and one before it by what is in flight. -/
theorem wholeByteAssembles : Obligations.WholeByteAssembles := by
  refine ⟨fun s bs b hs hl => ?_, fun s bs b hs hl => ?_⟩
  · change execWholeByte b s = _
    simp only [execWholeByte, hs, hl, State.discardFrame, recordOf_long bs _ _ _ (by omega : 4 ≤ bs.length)]
    rfl
  · rw [exec_wholeByte s bs b hs hl]
    refine ⟨fun h => ?_, fun a k ha hk hf hk8 hlen => ?_, fun a ha hk h => ?_⟩
    · have none_checked : ¬s.inFlight .check = true := fun hc => by
        obtain ⟨a, ha, hk⟩ := (inFlight_check_eq_true_iff s).1 hc
        exact h a ha hk
      rw [if_neg none_checked]
    · rw [if_pos ((inFlight_check_eq_true_iff s).2 ⟨a, ha, hk⟩), Capture.byteRead_of_wordEnd _ bs b k hf hk8 hlen]
    · have unread : s.ltx.capture.byteRead (bs ++ [b]) = s.ltx.capture := by
        rcases h with h | h
        · exact Capture.byteRead_of_frozen _ _ h
        · exact Capture.byteRead_of_other _ bs b h
      rw [if_pos ((inFlight_check_eq_true_iff s).2 ⟨a, ha, hk⟩), unread]

/-! ### An attempt that ends SENT -/

namespace State

variable (s : State)

theorem attemptSent_of_none (good : Bool) (h : s.ltx.attempt = none) : s.attemptSent good = s := by
  simp [attemptSent, h]

theorem attemptSent_of_check (a : Attempt) (good : Bool) (ha : s.ltx.attempt = some a) (hk : a.kind = .check) :
    s.attemptSent good = if good then s.releaseSdl.checkPasses else s.releaseSdl.checkFails := by
  simp only [attemptSent, ha, if_pos hk]
  rfl

theorem attemptSent_of_frame (a : Attempt) (good : Bool) (ha : s.ltx.attempt = some a) (hk : a.kind ≠ .check) :
    s.attemptSent good =
      (((s.releaseSdl.sentSettlesIntent a).sentLeavesSet a.kind).giveLtx (.sent a.kind)).sentRestartsIsolation := by
  simp only [attemptSent, ha, if_neg hk]
  rfl

theorem sentSettlesIntent_eq (a : Attempt) : s.sentSettlesIntent a = s.setLtx { s.ltx with
    recallHeld := if a.kind = .intent then false else s.ltx.recallHeld
    intentSent := if a.kind = .intent then !a.beforeRequest else s.ltx.intentSent } := by
  unfold sentSettlesIntent
  split <;> rfl

theorem sentLeavesSet_eq (k : FrameKind) : s.sentLeavesSet k = s.setLtx { s.ltx with
    pend := match s.ltx.pend.get k with
      | none => s.ltx.pend
      | some e => s.ltx.pend.put k (if e.renewal then some { lost := 0, fault := 0, renewal := false } else none) } := by
  unfold sentLeavesSet
  cases s.ltx.pend.get k <;> rfl

theorem sentRestartsIsolation_eq : s.sentRestartsIsolation = (s.setLtx { s.ltx with
      isolation := s.ltx.isolation.map (fun _ => 0)
      isolationInd := if s.ltx.isolation.isSome then false else s.ltx.isolationInd
      rejoinGiven := if s.ltx.isolation.isSome then false else s.ltx.rejoinGiven }).setNotices
    { s.notices with ltx := s.notices.ltx ++
        if s.ltx.isolation.isSome ∧ s.ltx.isolationInd = true then [.isolationEnd] else [] } := by
  unfold sentRestartsIsolation
  cases hi : s.ltx.isolation with
  | none =>
    change s = (s.setLtx { s.ltx with isolation := none }).setNotices { s.notices with ltx := s.notices.ltx ++ [] }
    rw [List.append_nil, ← hi]
    rfl
  | some n =>
    cases hd : s.ltx.isolationInd with
    | false =>
      change _ = (s.setLtx { s.ltx with isolation := some 0, isolationInd := false, rejoinGiven := false }).setNotices
        { s.notices with ltx := s.notices.ltx ++ [] }
      rw [List.append_nil]
      rfl
    | true => rfl

end State

/-- Settles O19: the four parts of a SENT end, one after the other. -/
theorem attemptSent : Obligations.AttemptSent := by
  refine ⟨fun s good h => s.attemptSent_of_none good h, fun s hr => ⟨fun ha => ?_, fun ha => ?_⟩, fun s a good ha hk => ?_⟩
  · have attempt : s.ltx.attempt.isSome = true := Option.isSome_iff_ne_none.2 ha
    change execEndDelimiter s = _
    unfold execEndDelimiter
    split
    · rename_i bs hs
      exact absurd hs (hr bs)
    all_goals
      rw [if_pos attempt]
      rfl
  · change execEndDelimiter s = _
    unfold execEndDelimiter
    split
    · rename_i bs hs
      exact absurd hs (hr bs)
    all_goals exact if_neg (by simp [ha])
  · rw [s.attemptSent_of_frame a good ha hk, State.sentRestartsIsolation_eq, State.sentLeavesSet_eq, State.sentSettlesIntent_eq]
    simp only [State.giveLtx]
    rfl

/-! ### A CHECK attempt in a run -/

namespace State

variable (s : State)

theorem fire_setLtx (l : Ltx) (k : AlarmKind) : fire k (s.setLtx l) = (fire k s).setLtx l := by
  calc fire k (s.setLtx l) = fire k ((s.setPins s.pins).setLtx l) := rfl
    _ = ((fire k s).setPins s.pins).setLtx l := s.fire_setPins_setLtx s.pins l k
    _ = ((fire k s).setPins (fire k s).pins).setLtx l := by rw [fire_pins]
    _ = (fire k s).setLtx l := rfl

/-- The lowest slot that is absent or differs from its pattern word. -/
theorem firstMismatch_eq_some_iff (slots : List (Option Nat)) (pattern : List Nat) (k : Nat) :
    firstMismatch slots pattern = some k ↔ k < 8 ∧ slots.getD k none ≠ some (pattern.getD k 0) ∧
      ∀ j < k, slots.getD j none = some (pattern.getD j 0) := by
  simp only [firstMismatch, List.find?_range_eq_some, bne_iff_ne, List.mem_range, Bool.not_eq_true', bne_eq_false_iff_eq]
  tauto

variable {s} {r : CheckRun}

theorem afterCheck_of_join (hr : s.ltx.check.run = some r) (ho : s.ltx.check.owner = some .join) (passed : Bool) :
    s.afterCheck passed = if passed then s.endJoinRun else s.endRun.giveLtx .checkFailed := by
  simp [afterCheck, hr, ho]

theorem afterCheck_of_ends (hr : s.ltx.check.run = some r) (ho : s.ltx.check.owner = some .host) (passed : Bool)
    (h : r.phase = .stopping ∨ r.mode.goesOn passed = false) : s.afterCheck passed = s.endRun := by
  rcases h with h | h <;> simp [afterCheck, hr, ho, h]

theorem afterCheck_of_waits (hr : s.ltx.check.run = some r) (ho : s.ltx.check.owner = some .host) (passed : Bool)
    (hp : r.phase ≠ .stopping) (hm : r.mode.goesOn passed = true) : s.afterCheck passed = s.waitRun r := by
  simp [afterCheck, hr, ho, hp, hm]

/-- CHECK is not dropped: an attempt that fails leaves it in the set, counted. -/
theorem attemptFailed_of_check {e : PendEntry} (h : s.ltx.pend.get .check = some e) (raise : PendEntry → PendEntry) :
    s.attemptFailed .check raise = s.setPend (s.ltx.pend.put .check (some (raise e))) := by
  simp [attemptFailed, h]

/-- The state of the check of `s` that has failed, on the wire of `x` (R36, R38). -/
def checkFailedOn (s x : State) : State := fire .lineFault { x with ltx := { x.ltx with
  attempt := none
  check := { s.ltx.check with lastResult := some .failed, failCounter := min 255 (s.ltx.check.failCounter + 1) }
  capture := if s.ltx.capture.frozen then s.ltx.capture else
    { s.ltx.capture with index := firstMismatch s.ltx.capture.slots s.pattern, frozen := true } } }

/-- A transmit fault that a CHECK attempt meets, before the check has failed (R27). -/
def faultOnWire (s : State) : State := { s with
  pins := { s.pins with sdl := none }
  ltx := { s.ltx with edgeUntold := s.ltx.edgeUntold || s.pins.sdl.isSome }
  lport := { s.lport with counters := { s.lport.counters with txFault := min 65535 (s.lport.counters.txFault + 1) } } }

theorem checkFailedOn_run (x : State) : (s.checkFailedOn x).ltx.check.run = s.ltx.check.run := by
  unfold checkFailedOn
  rw [fire_ltx]

theorem checkFailedOn_owner (x : State) : (s.checkFailedOn x).ltx.check.owner = s.ltx.check.owner := by
  unfold checkFailedOn
  rw [fire_ltx]

/-- LINE_FAULT has fired at the fault, and firing it again for the failed check changes nothing. -/
theorem meetFault_check : s.meetFault .check = (s.checkFailedOn s.faultOnWire).afterCheck false := by
  have failed (t : State) (l : Ltx) : fire .lineFault ((fire .lineFault t).setLtx l) = fire .lineFault (t.setLtx l) := by
    rw [fire_setLtx, fire_fire, fire_setLtx]
  have fails (t : State) : (fire .lineFault t).checkFails = (fire .lineFault (t.setLtx { t.ltx with
      check := { t.ltx.check with lastResult := some .failed, failCounter := min 255 (t.ltx.check.failCounter + 1) }
      capture := t.ltx.capture.freeze t.pattern })).afterCheck false := by
    unfold checkFails
    rw [failed, fire_ltx]
    simp only [pattern, fire_lport]
  exact fails _

end State

theorem exec_transmitFault (s : State) (a : Attempt) (ha : s.ltx.attempt = some a) :
    exec .transmitFault s = .next (s.meetFault a.kind).settle := by
  change execTransmitFault s = _
  simp only [execTransmitFault, ha]

theorem exec_lostArbitration (s : State) (a : Attempt) (ha : s.ltx.attempt = some a) :
    exec .lostArbitration s = .next (s.loseArbitration a.kind) := by
  change execLostArbitration s = _
  simp only [execLostArbitration, ha]

/-- Settles O20: the check that passed or failed, and what follows it by the owner, the phase and the mode of the run. -/
theorem checkAttemptEnds : Obligations.CheckAttemptEnds := by
  intro s a r ha hk hr
  let passed : State := { s with ltx := { s.ltx with
    attempt := none, check := { s.ltx.check with lastResult := some .passed } } }
  have pass : s.attemptSent true = passed.afterCheck true := by
    rw [s.attemptSent_of_check a true ha hk]
    rfl
  have fail : s.attemptSent false = (s.checkFailedOn s).afterCheck false := by
    rw [s.attemptSent_of_check a false ha hk]
    rfl
  have fault : exec .transmitFault s = .next ((s.checkFailedOn s.faultOnWire).afterCheck false).settle := by
    rw [exec_transmitFault s a ha, hk, State.meetFault_check]
  have run (x : State) : (s.checkFailedOn x).ltx.check.run = some r := by rw [State.checkFailedOn_run, hr]
  refine ⟨passed, s.checkFailedOn s, s.checkFailedOn s.faultOnWire, firstMismatch s.ltx.capture.slots s.pattern, s.checkFailedOn,
    State.endRun, fun x => x.waitRun r, fun k => State.firstMismatch_eq_some_iff _ _ k, rfl, fun x => rfl, rfl, rfl,
    fun x => rfl, fun x => rfl, fun ho => ?_, fun ho => ?_, fun hp => ?_, fun e hp he => ?_⟩
  · have owner (x : State) : (s.checkFailedOn x).ltx.check.owner = some .host := by rw [State.checkFailedOn_owner, ho]
    rw [pass, fail, fault]
    refine ⟨fun h => ?_, fun hp hm => ?_, fun hp hm => ?_⟩
    · have ends (b : Bool) : r.phase = .stopping ∨ r.mode.goesOn b = false := h.imp_right fun hm => by rw [hm]; rfl
      rw [State.afterCheck_of_ends (s := passed) hr ho true (ends true),
        State.afterCheck_of_ends (run s) (owner s) false (ends false),
        State.afterCheck_of_ends (run _) (owner _) false (ends false)]
      exact ⟨rfl, rfl, rfl⟩
    · have ends : r.phase = .stopping ∨ r.mode.goesOn false = false := .inr (by rw [hm]; rfl)
      rw [State.afterCheck_of_waits (s := passed) hr ho true hp (by rw [hm]; rfl),
        State.afterCheck_of_ends (run s) (owner s) false ends, State.afterCheck_of_ends (run _) (owner _) false ends]
      exact ⟨rfl, rfl, rfl⟩
    · have waits (b : Bool) : r.mode.goesOn b = true := by rw [hm]; rfl
      rw [State.afterCheck_of_waits (s := passed) hr ho true hp (waits true),
        State.afterCheck_of_waits (run s) (owner s) false hp (waits false),
        State.afterCheck_of_waits (run _) (owner _) false hp (waits false)]
      exact ⟨rfl, rfl, rfl⟩
  · have owner (x : State) : (s.checkFailedOn x).ltx.check.owner = some .join := by rw [State.checkFailedOn_owner, ho]
    rw [pass, fail, fault, State.afterCheck_of_join (s := passed) hr ho true, State.afterCheck_of_join (run s) (owner s) false,
      State.afterCheck_of_join (run _) (owner _) false]
    exact ⟨rfl, rfl, rfl⟩
  · rw [exec_lostArbitration s a ha, hk]
    have stopping : s.runStopping = true := by simp [State.runStopping, hr, hp]
    exact congrArg Host.Outcome.next (if_pos ⟨rfl, stopping⟩)
  · rw [exec_lostArbitration s a ha, hk]
    have going : ¬s.runStopping = true := by simp [State.runStopping, hr, hp]
    exact congrArg Host.Outcome.next ((if_neg fun h => going h.2).trans (State.attemptFailed_of_check (by exact he) _))

end Sys2Proof.Machine
end

section
/-! ## The full reset, and the commands whose occasion is absent (O3, O5) -/

namespace Sys2Proof.Machine

theorem exec_resetIgnoreEnd (s : State) (h : s.rst.blind = some 0) :
    exec .resetIgnoreEnd s = .next { s with rst := { s.rst with blind := none } } :=
  if_pos ((expired_eq_true_iff _).2 h)

/-- Settles O3: the reset values are written out, and nothing of the state before the reset is read but its pins. -/
theorem fullReset : Obligations.FullReset := by
  refine ⟨⟨rfl, fun s => ⟨_, rfl, rfl, rfl, rfl, rfl, rfl, rfl, fun k => by cases k <;> rfl, rfl, rfl, rfl, rfl, rfl, rfl, rfl,
    rfl, rfl, rfl, rfl, rfl, rfl, rfl, rfl, rfl, rfl, rfl, rfl, rfl, rfl, rfl, rfl, rfl, rfl, rfl, rfl, rfl, rfl⟩⟩,
    fun s h => if_pos h, exec_resetIgnoreEnd⟩

/-! ### A record or a notice that is not there -/

section absent

variable {s : State} {c : Instr}

theorem takeHead_eq_nil (h : s.own.attach = .detached ∨ s.rsq.records = []) : s.takeHead = [] := by
  rcases h with h | h <;> simp [State.takeHead, State.head, h]

theorem exec_of_not_takeHead (h : c ∉ s.takeHead) (hc : c ∈ [Instr.takeAnnounce, .takeIntent, .takeSettle, .takeLeave,
    .takeOwnRecord, .takeDuplicateRecord, .takeErrorRecord, .takeLossRecord, .takeCheckRecord]) : exec c s = .next s := by
  simp only [List.mem_cons, List.not_mem_nil, or_false] at hc
  rcases hc with rfl | rfl | rfl | rfl | rfl | rfl | rfl | rfl | rfl
  · change execTakeAnnounce s = _
    cases hh : s.head <;> simp_all [execTakeAnnounce, State.takeHead]
  · change execTakeIntent s = _
    cases hh : s.head <;> simp_all [execTakeIntent, State.takeHead]
  · change execTakeSettle s = _
    cases hh : s.head <;> simp_all [execTakeSettle, State.takeHead]
  · change execTakeLeave s = _
    cases hh : s.head <;> simp_all [execTakeLeave, State.takeHead]
  · change execTakeOwnRecord s = _
    cases hh : s.head <;> simp_all [execTakeOwnRecord, State.takeHead]
  · change execTakeDuplicateRecord s = _
    cases hh : s.head <;> simp_all [execTakeDuplicateRecord, State.takeHead]
  · change execTakeErrorRecord s = _
    cases hh : s.head <;> simp_all [execTakeErrorRecord, State.takeHead]
  · change execTakeLossRecord s = _
    cases hh : s.head <;> simp_all [execTakeLossRecord, State.takeHead]
  · change execTakeCheckRecord s = _
    cases hh : s.head <;> simp_all [execTakeCheckRecord, State.takeHead]

theorem exec_of_not_takeLtxNotice (h : c ∉ s.takeLtxNotice) (hc : c ∈ [Instr.sentNotice, .droppedNotice, .recalledNotice,
    .isolatedNotice, .isolationEndNotice, .rejoinNotice, .checkPassed, .checkFailed]) : exec c s = .next s := by
  simp only [List.mem_cons, List.not_mem_nil, or_false] at hc
  rcases hc with rfl | rfl | rfl | rfl | rfl | rfl | rfl | rfl
  · change execSentNotice s = _
    unfold execSentNotice
    split
    · simp_all [State.takeLtxNotice]
    · rfl
  · change execDroppedNotice s = _
    unfold execDroppedNotice
    split
    · simp_all [State.takeLtxNotice]
    · rfl
  · change execRecalledNotice s = _
    unfold execRecalledNotice
    split
    · simp_all [State.takeLtxNotice]
    · rfl
  · change execIsolatedNotice s = _
    unfold execIsolatedNotice
    split
    · simp_all [State.takeLtxNotice]
    · rfl
  · change execIsolationEndNotice s = _
    unfold execIsolationEndNotice
    split
    · simp_all [State.takeLtxNotice]
    · rfl
  · change execRejoinNotice s = _
    unfold execRejoinNotice
    split
    · simp_all [State.takeLtxNotice]
    · rfl
  · change execCheckPassed s = _
    unfold execCheckPassed
    split
    · simp_all [State.takeLtxNotice]
    · rfl
  · change execCheckFailed s = _
    unfold execCheckFailed
    split
    · simp_all [State.takeLtxNotice]
    · rfl

theorem exec_of_not_takeSluNotice (h : c ∉ s.takeSluNotice) (hc : c ∈ [Instr.shedStartNotice, .shedEndNotice]) :
    exec c s = .next s := by
  simp only [List.mem_cons, List.not_mem_nil, or_false] at hc
  rcases hc with rfl | rfl
  · change execShedStartNotice s = _
    unfold execShedStartNotice
    split
    · simp_all [State.takeSluNotice]
    · rfl
  · change execShedEndNotice s = _
    unfold execShedEndNotice
    split
    · simp_all [State.takeSluNotice, State.mem_offer]
    · rfl

theorem exec_of_not_takeAuNotice (h : c ∉ s.takeAuNotice) (hc : c ∈ [Instr.forceAlarmNotice, .clearedNotice]) :
    exec c s = .next s := by
  simp only [List.mem_cons, List.not_mem_nil, or_false] at hc
  rcases hc with rfl | rfl
  · change execForceAlarmNotice s = _
    unfold execForceAlarmNotice
    split
    · simp_all [State.takeAuNotice]
    · rfl
  · change execClearedNotice s = _
    unfold execClearedNotice
    split
    · simp_all [State.takeAuNotice]
    · rfl

theorem exec_profileChangeEvent_of_none (h : s.notices.pfu = []) : exec .profileChangeEvent s = .next s := by
  change execProfileChangeEvent s = _
  simp [execProfileChangeEvent, h]

/-- A command by which CE takes something, and that it may not take now, did not happen. -/
theorem exec_of_not_ceTakes (h : c ∉ s.ceTakes) (hc : c ∈ [Instr.takeAnnounce, .takeIntent, .takeSettle, .takeLeave,
    .takeOwnRecord, .takeDuplicateRecord, .takeErrorRecord, .takeLossRecord, .takeCheckRecord, .sentNotice, .droppedNotice,
    .recalledNotice, .isolatedNotice, .isolationEndNotice, .rejoinNotice, .checkPassed, .checkFailed, .shedStartNotice,
    .shedEndNotice, .forceAlarmNotice, .clearedNotice, .profileChangeEvent]) : exec c s = .next s := by
  simp only [State.ceTakes, List.mem_append, not_or] at h
  obtain ⟨⟨⟨⟨head, ltx⟩, slu⟩, au⟩, pfu⟩ := h
  have groups : c ∈ [Instr.takeAnnounce, .takeIntent, .takeSettle, .takeLeave, .takeOwnRecord, .takeDuplicateRecord,
      .takeErrorRecord, .takeLossRecord, .takeCheckRecord] ++ ([.sentNotice, .droppedNotice, .recalledNotice, .isolatedNotice,
      .isolationEndNotice, .rejoinNotice, .checkPassed, .checkFailed] ++ ([.shedStartNotice, .shedEndNotice] ++
      ([.forceAlarmNotice, .clearedNotice] ++ [.profileChangeEvent]))) := hc
  simp only [List.mem_append] at groups
  rcases groups with hc | hc | hc | hc | hc
  · exact exec_of_not_takeHead head hc
  · exact exec_of_not_takeLtxNotice ltx hc
  · exact exec_of_not_takeSluNotice slu hc
  · exact exec_of_not_takeAuNotice au hc
  · obtain rfl := List.mem_singleton.1 hc
    refine exec_profileChangeEvent_of_none ?_
    simpa [State.mem_offer] using pfu

end absent

/-! ### An event of SDL that LRX does not take -/

theorem frameStart_eq_none (s : State) (h : s.lrx.state = .disabled ∨ (∃ bs, s.lrx.state = .receiving bs) ∨
    ((s.pins.sdl ≠ none ∨ s.ltx.recessive < 2 * s.bitTime) ∧ (s.lrx.state = .hunt false ∨ s.lrx.state = .discard ∨
      ∃ age, s.lrx.state = .starting age ∧ (4 * age < s.bitTime ∨ 9 * s.bitTime ≤ 4 * age)))) : s.frameStart = none := by
  rcases h with h | ⟨bs, h⟩ | ⟨hn, h⟩
  · rw [State.frameStart, s.seesIdle_of_not_due (s.lineIdleDue_of_not_waiting (by simp [h]) (by simp [h]) (by simp [h])), h]
  · rw [State.frameStart, s.seesIdle_of_not_due (s.lineIdleDue_of_not_waiting (by simp [h]) (by simp [h]) (by simp [h])), h]
  · rw [State.frameStart, s.seesIdle_of_not_due (s.lineIdleDue_of_not_idle hn)]
    rcases h with h | h | ⟨age, h, ha⟩
    · rw [h]
    · rw [h]
    · rw [h]
      refine if_neg fun hm => ?_
      obtain ⟨h1, h2⟩ := (s.mayOpen_eq_true_iff age).1 hm
      omega

theorem lineIdle_eq_false (s : State) (h : (s.pins.sdl = none ∧ s.ltx.edgeUntold = false ∧ s.ltx.recessive < 2 * s.bitTime) ∨
    ∃ t, s.pins.sdl = some t ∧ t < 2 * s.bitTime) : s.lineIdle = false := by
  refine Bool.eq_false_iff.2 fun hi => ?_
  rcases s.lineIdle_eq_true_iff.1 hi with ⟨hn, hu⟩ | ⟨t, ht, hl⟩
  · rcases h with ⟨-, he, hr⟩ | ⟨t, ht, -⟩
    · rcases hu with hu | hu
      · rw [he] at hu
        cases hu
      · omega
    · rw [hn] at ht
      cases ht
  · rcases h with ⟨hn, -⟩ | ⟨u, hu, hl'⟩
    · rw [hn] at ht
      cases ht
    · rw [hu] at ht
      cases ht
      omega

/-- Settles O5: each command is guarded by its occasion. -/
theorem absentOccasionChangesNothing : Obligations.AbsentOccasionChangesNothing := by
  intro s
  have timer (t : Option Nat) (h : t ≠ some 0) : ¬expired t = true := fun he => h ((expired_eq_true_iff t).1 he)
  have short (t : Option Nat) (n : Nat) (h : ∀ m, t = some m → m < n) : ¬∃ m, t = some m ∧ n ≤ m := fun ⟨m, hm, hl⟩ =>
    Nat.not_lt.2 hl (h m hm)
  refine ⟨fun h => if_neg (timer _ h), fun h => if_neg ?_, fun h => if_neg ?_, fun h => if_neg ?_, fun h => if_neg (timer _ h),
    fun h => if_neg ?_, fun h => if_neg ?_, fun h => if_neg ?_, fun h => if_neg ?_, fun h => ⟨if_neg ?_, if_neg ?_⟩,
    fun h => if_neg (timer _ h), fun h => if_neg (timer _ h), fun h => if_neg ?_, fun h => if_neg (timer _ h),
    fun h => if_neg (timer _ h), fun h => if_neg (timer _ h), fun h => if_neg (by simp [h]), fun h => ?_, fun h => ?_,
    fun h c hc => exec_of_not_takeHead (by simp [takeHead_eq_nil h]) hc,
    fun h c hc => exec_of_not_takeLtxNotice (by simp [State.takeLtxNotice, h]) hc,
    fun h => ⟨exec_of_not_takeSluNotice (by simp [State.takeSluNotice, h]) (by simp),
      exec_of_not_takeSluNotice (by simp [State.takeSluNotice, h]) (by simp)⟩,
    fun h => ⟨exec_of_not_takeAuNotice (by simp [State.takeAuNotice, h]) (by simp),
      exec_of_not_takeAuNotice (by simp [State.takeAuNotice, h]) (by simp)⟩,
    exec_profileChangeEvent_of_none, fun c hc h => exec_of_not_ceTakes h hc, fun h => ?_, fun h => ?_,
    fun bs hs hl => ?_, fun h => ?_, fun x h => ?_, fun x h => ?_, fun h => if_neg ?_, fun h => ⟨?_, ?_⟩⟩
  · rw [s.isolation3PDue_iff]
    rintro ⟨hi, hn⟩
    rcases h with h | h
    · rw [h] at hi
      cases hi
    · exact short _ _ h hn
  · rw [s.isolation40PDue_iff]
    rintro ⟨hi, hn⟩
    rcases h with h | h
    · rw [h] at hi
      cases hi
    · exact short _ _ h hn
  · exact fun hd => h (s.repeatDue_iff.1 hd).1
  · rw [s.holdDue_iff]
    tauto
  · rw [s.retryDue_iff]
    tauto
  · rw [s.listenDue_iff]
    tauto
  · exact fun hd => short _ _ h (s.settleDue_iff.1 hd)
  · rw [s.assertedDue_iff]
    exact fun ⟨_, _, hn⟩ => short _ _ h hn
  · rw [s.releasedDue_iff]
    exact fun ⟨_, _, hn⟩ => short _ _ h hn
  · rw [s.holdEndDue_iff]
    tauto
  · constructor
    · change execLostArbitration s = _
      simp only [execLostArbitration, h]
    · change execTransmitFault s = _
      simp only [execTransmitFault, h]
  · obtain ⟨a, ha⟩ := h
    have none_due : s.attemptDue = none := by simp [State.attemptDue, ha]
    change execAttemptStart s = _
    simp only [execAttemptStart, none_due]
  · have none_starts := frameStart_eq_none s h
    constructor
    · change execStartDelimiter s = _
      simp only [execStartDelimiter, none_starts]
    · change execMalformedStart s = _
      simp only [execMalformedStart, none_starts]
  · refine ⟨?_, ?_, fun b => ?_⟩
    · change execViolation s = _
      unfold execViolation
      split
      · exact absurd ‹_› (h _)
      all_goals rfl
    · change execTooLong s = _
      unfold execTooLong
      split
      · exact absurd ‹_› (h _)
      all_goals rfl
    · change execWholeByte b s = _
      unfold execWholeByte
      split
      · exact absurd ‹_› (h _)
      all_goals rfl
  · change execTooLong s = _
    simp only [execTooLong, hs, if_neg hl]
  · change execLineIdle s = _
    rcases h with h | h | ⟨bs, h⟩
    · exact if_neg (by simp [lineIdle_eq_false s (.inl h)])
    · exact if_neg (by simp [lineIdle_eq_false s (.inr h)])
    · simp [execLineIdle, h]
  · change execPeerLost x s = _
    unfold execPeerLost
    split
    · rfl
    · rename_i p hp
      refine if_neg fun hd => ?_
      obtain ⟨hlive, hq⟩ := (s.peerLostDue_iff p).1 hd
      rcases h p hp with h | h
      · rw [h] at hlive
        cases hlive
      · omega
  · change execPeerForgotten x s = _
    unfold execPeerForgotten
    split
    · rfl
    · rename_i p hp
      refine if_neg fun hd => ?_
      obtain ⟨hlost, hq⟩ := (s.peerForgottenDue_iff p).1 hd
      rcases h p hp with h | h
      · rw [h] at hlost
        cases hlost
      · omega
  · rw [s.tripDue_iff]
    rintro ⟨hm, hl, hd⟩
    rcases h with h | h | ⟨hr, h⟩
    · exact h hm
    · exact hl h
    · rcases hd with hd | ⟨hb, ht, ha, hq⟩
      · rw [hr] at hd
        cases hd
      · rcases h with h | h | h | h
        · exact h hb
        · omega
        · rw [h] at ha
          cases ha
        · omega
  · change execShdLevelChange s.pins.shd s = _
    simp [execShdLevelChange, h]
  · change execPselChange _ _ _ s = _
    simp [execPselChange, h]

end Sys2Proof.Machine
end

section
/-! ## The completion of a leave, CONFIGURE, and the invariants at reset (O36, O50, O54) -/

namespace Sys2Proof.Machine

/-- Settles O36: either notice of LEAVE leads to `completeLeave`. -/
theorem leaveCompletion : Obligations.LeaveCompletion := by
  intro s n rest c hn hl hc
  rcases hc with ⟨rfl, rfl⟩ | ⟨rfl, rfl⟩
  · change execSentNotice s = _
    have taken : s.takeLtx.takeSent .leave = s.takeLtx.completeLeave := if_pos hl
    simp only [execSentNotice, hn, taken]
    simp only [State.takeLtx, hn]
    rfl
  · change execDroppedNotice s = _
    have taken : s.takeLtx.takeDropped .leave = s.takeLtx.completeLeave := if_pos hl
    simp only [execDroppedNotice, hn, taken]
    simp only [State.takeLtx, hn]
    rfl

/-! ### The configuration record -/

theorem holdsKind_ofNat (n : Nat) (k : AlarmKind) : holdsKind (BitVec.ofNat 16 n) k = n.testBit k.bit := by
  have bit : k.bit < 16 := by cases k <;> decide
  rw [holdsKind, BitVec.getLsbD_ofNat, decide_eq_true bit, Bool.true_and]

theorem inRange_iff (c : ConfigRecord) : c.inRange = true ↔
    1 ≤ c.stationId ∧ c.stationId ≤ 31 ∧ c.bitRate ≤ 3 ∧ c.period ≤ 3 ∧ 1 ≤ c.hold ∧ c.hold ≤ 40 ∧ 1 ≤ c.floor ∧
      c.floor ≤ 4095 ∧ c.floor ≤ c.ceiling ∧ c.ceiling ≤ 4095 ∧ c.tripMargin ≤ 255 ∧ c.blanking ≤ 3 ∧ c.qualify ≤ 3 ∧
      c.follow ≤ 3 ∧ c.tripMode ≤ 4 ∧ 1 ≤ c.retryLimit ∧ c.retryLimit ≤ 15 ∧ c.notifyMask < 2048 ∧ c.forceMask < 2048 ∧
      c.lineMask < 2048 ∧ c.lineMask.testBit 10 = false := by
  have shed : AlarmKind.shedSeen.bit = 10 := rfl
  simp only [ConfigRecord.inRange, kindsOnly, Bool.and_eq_true, decide_eq_true_eq, Bool.not_eq_true', holdsKind_ofNat, shed,
    and_assoc]

theorem readConfig_of_some (s : State) (c : ConfigRecord) (h : s.lport.config = some c) (f : ConfigRecord → Nat) :
    s.readConfig f = f c := by
  simp [State.readConfig, h]

/-- A request that passes every test of R174. -/
theorem answer_carried (s : State) (request : Byte) (carry : State → Carried) (h : s.transactionEnds = true) :
    s.answer request true true true carry =
      (carry s.endTransaction).state.respond (carry s.endTransaction).code request (carry s.endTransaction).data := by
  simp [State.answer, h]

/-- Settles O50: the ranges, the store, and the times of the codes. -/
theorem configureStores : Obligations.ConfigureStores := by
  refine ⟨inRange_iff, fun s ps qs c ht hqs hlen ha hr hc hrec => ?_, ⟨rfl, rfl⟩, fun s c hc hr => ?_⟩
  · have parsed : parseConfig qs = c := hrec ▸ rfl
    have idle : s.idleDetached = true := by simp [State.idleDetached, State.lineCheckRunning, ha, hr]
    have enough : decide (52 ≤ qs.length) = true := decide_eq_true hlen
    change Host.Outcome.next (s.answer codeConfigure (52 ≤ (portParams ps).length) s.idleDetached
      (parseConfig (portParams ps)).inRange _) = _
    rw [← hqs, parsed, enough, idle, hc, answer_carried s _ _ ht]
    rfl
  · obtain ⟨-, -, hbit, hperiod, -, -, -, -, -, -, -, -, hqualify, hfollow, -⟩ := (inRange_iff c).1 hr
    simp only [State.bitTime, State.slot, State.period, State.holdWindow, State.followTime, State.qualifyTime,
      readConfig_of_some s c hc]
    refine ⟨?_, ?_, ?_, trivial, ?_, ?_⟩
    · generalize c.bitRate = n at hbit ⊢
      interval_cases n <;> rfl
    · generalize c.period = n at hperiod ⊢
      interval_cases n <;> rfl
    · generalize c.period = n at hperiod ⊢
      interval_cases n <;> rfl
    · generalize c.follow = n at hfollow ⊢
      interval_cases n <;> rfl
    · generalize c.qualify = n at hqualify ⊢
      interval_cases n <;> rfl

/-! ### The invariants at reset -/

theorem OutputsAgree.reset : OutputsAgree State.reset where
  reference := by decide
  gate := by decide
  alert := by decide
  drive := by decide
  noGrace := fun _ => ⟨rfl, rfl⟩
  notEvaluated := fun _ => ⟨rfl, rfl, rfl⟩

theorem TimersAgree.reset : TimersAgree State.reset where
  current := by decide
  hold := by decide
  retry := by decide
  listen := by decide
  announce := rfl
  isolation := rfl
  settling := fun h => nomatch h
  idle := fun _ _ => rfl
  openMarks := fun _ => ⟨rfl, rfl, rfl⟩
  confirmed := fun h => nomatch h
  tripHold := by decide
  isolated := fun h => nomatch h

theorem ClaimSound.reset : ClaimSound State.reset where
  inRange := fun _ hc => nomatch hc
  configured := by
    rintro (h | h | h)
    · exact absurd rfl h
    · cases h
    · cases h
  noClaim := fun _ => rfl
  between := fun h => nomatch h
  target := Nat.zero_le _
  minStep := Nat.le_refl 1
  openAttach := fun h => absurd rfl h
  openIntent := by
    rintro (h | h) <;> cases h
  joinIntent := fun h => nomatch h

theorem ViewSound.reset : ViewSound State.reset where
  senders := fun _ hr => nomatch hr
  ascending := .nil
  peerIds := fun _ hp => nomatch hp
  lostUnrefreshed := fun _ hp => nomatch hp
  oneEntry := .nil
  peerEntries := fun _ he => nomatch he
  ownEntries := fun _ he => nomatch he
  ownEntry := ⟨fun ⟨_, he, _⟩ => (nomatch he), fun h => nomatch h⟩
  detached := fun _ => ⟨rfl, rfl⟩
  reference := rfl
  idle := fun h => absurd rfl h

/-- Settles O54: each invariant at the values of a full reset. -/
theorem soundAtReset : Obligations.SoundAtReset :=
  ⟨.reset, .atReset, .empty, ((fits_iff _).1 (.inFullReset _ _ _ _ (Nat.zero_le 7))).1, .inFullReset _ _ _ _, .reset, .reset,
    .reset⟩

end Sys2Proof.Machine
end

section
/-! ## Every step keeps the timers and the marks (O58)

`TimersAgree` speaks of the own claim context, of whether the announce and isolation timers run, and of the trip hold. Most
operations leave all of these alone (`TimersAgree.frame`); the Claim Engine's own operations, the changes of the attach state and
the trips each have a lemma that says why the new state and its timers agree again. -/

namespace Sys2Proof.Machine

@[simp] theorem countDown_isSome (t : Option Nat) : (countDown t).isSome = t.isSome := Option.isSome_map

@[simp] theorem countUp_isSome (t : Option Nat) : (countUp t).isSome = t.isSome := Option.isSome_map

@[simp] theorem State.settle_hold (s : State) : s.settle.cmon.hold = s.cmon.hold := by
  rw [← s.settle_cmon_frame]

namespace TimersAgree

variable {s t : State}

/-- What leaves the own context, the running of LTX's two timers, and the trip hold alone. -/
theorem frame (h : TimersAgree s) (own : t.own = s.own := by simp)
    (announce : t.ltx.announce.isSome = s.ltx.announce.isSome := by simp)
    (isolation : t.ltx.isolation.isSome = s.ltx.isolation.isSome := by simp)
    (hold : t.cmon.hold = s.cmon.hold := by simp) (trip : t.cmon.trip = s.cmon.trip := by simp) : TimersAgree t := by
  have attached : t.attached = s.attached := by simp only [State.attached, own]
  exact
    { current := own ▸ h.current
      hold := own ▸ h.hold
      retry := own ▸ h.retry
      listen := own ▸ h.listen
      announce := announce.trans (h.announce.trans attached.symm)
      isolation := isolation.trans (h.isolation.trans attached.symm)
      settling := own ▸ h.settling
      idle := own ▸ h.idle
      openMarks := own ▸ h.openMarks
      confirmed := own ▸ h.confirmed
      tripHold := by rw [hold, trip]; exact h.tripHold
      isolated := by rw [own, attached]; exact h.isolated }

theorem ite {p : Prop} [Decidable p] {s t : State} (ht : TimersAgree t) (hs : TimersAgree s) :
    TimersAgree (if p then t else s) := by
  split
  · exact ht
  · exact hs

/-! ### What the table says of one intent state -/

theorem hold_eq_none (h : TimersAgree s) (hi : s.own.intentState ≠ .window) : s.own.hold = none := by
  rwa [← Option.not_isSome_iff_eq_none, h.hold]

theorem retry_eq_none (h : TimersAgree s) (hi : s.own.intentState ≠ .retryWait) : s.own.retry = none := by
  rwa [← Option.not_isSome_iff_eq_none, h.retry]

theorem not_confirmed (h : TimersAgree s) (hi : s.own.intentState ≠ .window) : s.own.confirmed ≠ true :=
  fun hc => hi (h.confirmed hc)

/-- An intent state other than IDLE stands in JOINING and MEMBER only. -/
theorem attach_of_intent (h : TimersAgree s) (hi : s.own.intentState ≠ .idle) :
    s.own.attach = .joining ∨ s.own.attach = .member := by
  by_contra hn
  obtain ⟨hj, hm⟩ := not_or.1 hn
  exact hi (h.idle hj hm)

/-! ### The shared operations -/

theorem request (h : TimersAgree s) (k : FrameKind) : TimersAgree (s.request k) :=
  h.frame (announce := by rw [s.request_ltx k]) (isolation := by rw [s.request_ltx k])

theorem requestIntent (h : TimersAgree s) : TimersAgree s.requestIntent := by
  refine TimersAgree.request (s := s.setLtx _) ?_ .intent
  exact { h with }

theorem recallIntent (h : TimersAgree s) : TimersAgree s.recallIntent := by
  unfold State.recallIntent
  split
  · exact { h with }
  · split
    · exact { h with }
    · exact h

theorem fire (h : TimersAgree s) (k : AlarmKind) : TimersAgree (s.fire k) := h.frame

theorem settle (h : TimersAgree s) : TimersAgree s.settle := h.frame

theorem setView (h : TimersAgree s) (v : View) : TimersAgree (s.setView v) := { h with }

theorem setCommitted (h : TimersAgree s) (n : Nat) : TimersAgree (s.setOwn { s.own with committed := n }) := { h with }

/-! ### Opening and resolving an intent -/

/-- In IDLE no timer of an intent runs: OPENING begins with the marks clear and a current intent. -/
theorem openIntent (h : TimersAgree s) (hi : s.own.intentState = .idle)
    (ha : s.own.attach = .joining ∨ s.own.attach = .member) : TimersAgree s.openIntent := by
  refine TimersAgree.requestIntent (s := s.setOwn _) ?_
  exact
    { h with
      current := by simp
      hold := by simp [h.hold_eq_none, hi]
      retry := by simp [h.retry_eq_none, hi]
      settling := fun hx => nomatch hx
      idle := fun hj hm => (ha.elim hj hm).elim
      openMarks := fun _ => ⟨rfl, rfl, rfl⟩
      confirmed := fun hx => nomatch hx }

theorem openingTest (h : TimersAgree s) : TimersAgree s.openingTest := by
  unfold State.openingTest
  split
  · rename_i ho
    simp only [State.openingHolds, Bool.and_eq_true, beq_iff_eq] at ho
    obtain ⟨⟨⟨⟨⟨hi, hw⟩, -⟩, -⟩, -⟩, -⟩ := ho
    refine h.openIntent hi ?_
    unfold State.wantsMore at hw
    split at hw
    · rename_i hj; exact .inl hj
    · rename_i hm; exact .inr hm
    all_goals cases hw
  · exact h

theorem endOfCeEvent (h : TimersAgree s) : TimersAgree s.endOfCeEvent := h.openingTest.settle

/-- A resolution ends OPENING or WINDOW: the hold timer stops, the marks clear, and the current intent stays for SETTLING. -/
theorem resolve (h : TimersAgree s) (hi : s.own.intentState = .opening ∨ s.own.intentState = .window) (o : IntentOutcome)
    (granted : Nat) (m : Option MarginClass) : TimersAgree (s.resolve o granted m) := by
  have current := h.current.2 (hi.elim .inl fun hw => .inr (.inl hw))
  have retry : s.own.retry = none := h.retry_eq_none (by rcases hi with hi | hi <;> simp [hi])
  have notIdle : s.own.intentState ≠ .idle := by rcases hi with hi | hi <;> simp [hi]
  refine TimersAgree.request (s := (s.setIntents _).setOwn _) ?_ .settle
  exact
    { h with
      current := by simp [current]
      hold := by simp
      retry := by simp [retry]
      settling := fun _ => rfl
      idle := fun hj hm => ((h.attach_of_intent notIdle).elim hj hm).elim
      openMarks := fun _ => ⟨rfl, rfl, rfl⟩
      confirmed := fun hx => nomatch hx }

theorem withdrawalCause (h : TimersAgree s) : TimersAgree s.withdrawalCause := by
  unfold State.withdrawalCause
  split
  · exact h
  · exact h
  · exact h
  · rename_i hi
    refine ite h (TimersAgree.recallIntent (s := s.setOwn _) ?_)
    exact { h with openMarks := fun hn => absurd hi hn }
  · rename_i hi
    exact h.resolve (.inr hi) ..

theorem decrease (h : TimersAgree s) : TimersAgree s.decrease :=
  ite ((h.setCommitted _).request .announce) (h.setCommitted _)

theorem settleToTarget (h : TimersAgree s) : TimersAgree s.settleToTarget := ite h.decrease h

theorem becomeMember (h : TimersAgree s) : TimersAgree s.becomeMember := by
  unfold State.becomeMember
  split
  · rename_i ha
    have attached : s.attached = true := by simp [State.attached, ha]
    exact
      { h with
        listen := ⟨fun hx => absurd (h.listen.1 hx) (by simp [ha]), fun hx => nomatch hx⟩
        announce := h.announce.trans attached
        isolation := h.isolation.trans attached
        idle := fun _ hm => absurd rfl hm
        isolated := fun _ => rfl }
  · exact h

/-- The decision at the end of the hold window. -/
theorem decideIntent (h : TimersAgree s) (hi : s.own.intentState = .window) : TimersAgree s.decideIntent := by
  have resolved := h.resolve (.inr hi)
  exact ite (resolved ..) (ite (resolved ..) (ite (resolved ..) (resolved ..).becomeMember.settleToTarget))

/-! ### The ends of OPENING and SETTLING -/

theorem takeReadback (h : TimersAgree s) (hi : s.own.intentState = .opening) : TimersAgree s.takeReadback := by
  unfold State.takeReadback
  split
  · exact h.resolve (.inl hi) ..
  · rename_i hw
    have current := h.current.2 (.inl hi)
    have retry := h.retry_eq_none (by simp [hi])
    exact
      { h with
        current := by simpa using current
        hold := by simp
        retry := by simp [retry]
        settling := fun hx => nomatch hx
        idle := fun hj hm => ((h.attach_of_intent (by simp [hi])).elim hj hm).elim
        openMarks := fun _ => ⟨Bool.eq_false_iff.2 hw, rfl, rfl⟩
        confirmed := fun hx => nomatch hx }

theorem openingDoubt (h : TimersAgree s) : TimersAgree s.openingDoubt := by
  unfold State.openingDoubt
  split
  · rename_i hi
    refine ite (h.resolve (.inl hi) ..) ?_
    exact { h with openMarks := fun hn => absurd hi hn }
  · exact h

theorem openingSent (h : TimersAgree s) (hi : s.own.intentState = .opening) : TimersAgree s.openingSent := by
  refine ite (h.resolve (.inl hi) ..) ?_
  exact { h with openMarks := fun hn => absurd hi hn }

theorem endOpening (h : TimersAgree s) (hi : s.own.intentState = .opening) : TimersAgree s.endOpening :=
  { h with
    current := by simp [State.endOpening]
    hold := by simp [State.endOpening, h.hold_eq_none, hi]
    retry := by simp [State.endOpening]
    settling := fun hx => nomatch hx
    idle := fun hj hm => ((h.attach_of_intent (by simp [hi])).elim hj hm).elim
    openMarks := fun _ => ⟨rfl, rfl, rfl⟩
    confirmed := fun hc => absurd hc (h.not_confirmed (by simp [hi])) }

theorem endSettling (h : TimersAgree s) (hi : s.own.intentState = .settling) : TimersAgree s.endSettling := by
  have marks := h.openMarks (by simp [hi])
  have confirmed := h.not_confirmed (by simp [hi])
  have hold := h.hold_eq_none (by simp [hi])
  unfold State.endSettling
  split
  · exact
      { h with
        current := by simp
        hold := by simp [hold]
        retry := by simp [h.retry_eq_none, hi]
        settling := fun hx => nomatch hx
        idle := fun _ _ => rfl
        openMarks := fun _ => marks
        confirmed := fun hc => absurd hc confirmed }
  · exact
      { h with
        current := by simp
        hold := by simp [hold]
        retry := by simp
        settling := fun hx => nomatch hx
        idle := fun hj hm => ((h.attach_of_intent (by simp [hi])).elim hj hm).elim
        openMarks := fun _ => marks
        confirmed := fun hc => absurd hc confirmed }

/-! ### Leaving, rejoining and attaching -/

theorem removeIntent (h : TimersAgree s) : TimersAgree s.removeIntent :=
  { h with
    current := by simp [State.removeIntent]
    hold := by simp [State.removeIntent]
    retry := by simp [State.removeIntent]
    settling := fun hx => nomatch hx
    idle := fun _ _ => rfl
    openMarks := fun _ => ⟨rfl, rfl, rfl⟩
    confirmed := fun hx => nomatch hx }

theorem takeLeaveRequest (h : TimersAgree s) : TimersAgree s.takeLeaveRequest :=
  { h.removeIntent with
    listen := by simp [State.takeLeaveRequest, State.clearForLeave]
    announce := rfl
    isolation := rfl
    idle := fun _ _ => rfl
    isolated := fun hx => nomatch hx }

theorem takeRejoin (h : TimersAgree s) : TimersAgree s.takeRejoin :=
  { h.removeIntent with
    listen := by simp [State.takeRejoin, State.rejoinLtx, State.setPeers]
    announce := rfl
    isolation := rfl
    idle := fun _ _ => rfl
    isolated := fun hx => nomatch hx }

/-- After LEAVE the own context stands at its reset values but for target, minimum step, intent number and last outcome. -/
theorem completeLeave (s : State) : TimersAgree s.completeLeave where
  current := by simp [State.completeLeave, OwnContext.atReset]
  hold := by simp [State.completeLeave, OwnContext.atReset]
  retry := by simp [State.completeLeave, OwnContext.atReset]
  listen := by simp [State.completeLeave, OwnContext.atReset]
  announce := rfl
  isolation := rfl
  settling := fun hx => nomatch hx
  idle := fun _ _ => rfl
  openMarks := fun _ => ⟨rfl, rfl, rfl⟩
  confirmed := fun hx => nomatch hx
  tripHold := by simp [State.completeLeave]
  isolated := fun hx => nomatch hx

theorem inFullReset (pins : Pins) (profile n : Nat) (q : List Instr) : TimersAgree (.inFullReset pins profile n q) :=
  { TimersAgree.reset with }

/-- In DETACHED the intent state is IDLE, so that only the listen timer and LTX's timers start. -/
theorem enterListening (h : TimersAgree s) (hd : s.own.attach = .detached) : TimersAgree s.enterListening := by
  have idle := h.idle (by simp [hd]) (by simp [hd])
  exact
    { h with
      current := by simp [State.enterListening]
      hold := by simp [State.enterListening, h.hold_eq_none, idle]
      retry := by simp [State.enterListening, h.retry_eq_none, idle]
      listen := by simp [State.enterListening]
      announce := rfl
      isolation := rfl
      settling := fun hx => nomatch hx
      idle := fun _ _ => rfl
      openMarks := fun _ => ⟨rfl, rfl, rfl⟩
      confirmed := fun hx => nomatch hx
      isolated := fun hx => nomatch hx }

theorem takeSent (h : TimersAgree s) (k : FrameKind) : TimersAgree (s.takeSent k) := by
  unfold State.takeSent
  split
  · split
    · rename_i hi
      exact h.openingSent (by simpa using (Bool.and_eq_true_iff.1 hi).2)
    · exact h
  · split
    · rename_i hi
      exact h.endSettling (by simpa using (Bool.and_eq_true_iff.1 hi).2)
    · exact h
  · exact ite (completeLeave s) h
  all_goals exact h

theorem takeRecalled (h : TimersAgree s) : TimersAgree s.takeRecalled := by
  unfold State.takeRecalled
  split
  · rename_i hi
    exact h.endOpening (by simpa using (Bool.and_eq_true_iff.1 hi).2)
  · exact h

theorem takeDropped (h : TimersAgree s) (k : FrameKind) : TimersAgree (s.takeDropped k) := by
  unfold State.takeDropped
  split
  · exact h.takeRecalled
  · split
    · rename_i hi
      exact h.endSettling (by simpa using (Bool.and_eq_true_iff.1 hi).2)
    · exact h
  · exact ite (completeLeave s) h
  all_goals exact h

theorem takeIsolated (h : TimersAgree s) : TimersAgree s.takeIsolated := by
  unfold State.takeIsolated
  split
  · rename_i ha
    have withdrawn := h.withdrawalCause
    have attached : s.withdrawalCause.attached = true := by simpa [State.attached] using ha
    have flagged : TimersAgree (s.withdrawalCause.setOwn { s.withdrawalCause.own with isolated := true }) :=
      { withdrawn with isolated := fun _ => attached }
    exact ite ((flagged.fire .isolated).setCommitted _ |>.request .announce) (flagged.fire .isolated)
  · exact h

theorem takeIsolationEnd (h : TimersAgree s) : TimersAgree s.takeIsolationEnd := by
  refine ite ?_ h
  exact { h with isolated := fun hx => nomatch hx }

/-! ### The change of profile and SET TARGET -/

theorem proportionalShed (h : TimersAgree s) (b : Nat) : TimersAgree (s.proportionalShed b) := by
  have announced := (h.setCommitted (s.shedClaim b)).request .announce
  exact ite (ite (ite announced.withdrawalCause announced) (h.setCommitted _)) h

theorem withdrawWindow (h : TimersAgree s) : TimersAgree s.withdrawWindow := by
  unfold State.withdrawWindow
  split
  · rename_i hi
    exact h.resolve (.inr hi) ..
  · exact h

theorem applyProfileChange (h : TimersAgree s) (b : Nat) : TimersAgree (s.applyProfileChange b) := by
  have shed := (TimersAgree.withdrawWindow (s := s.unrefresh) (h.setView _)).proportionalShed b
  exact ite (shed.fire .budgetDeficit) shed

theorem applyTarget (h : TimersAgree s) (target minStep : Nat) : TimersAgree (s.applyTarget target minStep) := by
  have set : TimersAgree (s.setOwn { s.own with target := target, minStep := minStep }) := { h with }
  exact ite (ite set.withdrawalCause.decrease set.withdrawalCause) set

/-! ### Records -/

theorem confirm (h : TimersAgree s) (mm : Bool) : TimersAgree (s.confirm mm) := by
  unfold State.confirm
  split
  · rename_i hi
    exact { h with confirmed := fun _ => hi.1 }
  · exact h

theorem ownGood (h : TimersAgree s) (mm : Bool) (d : Decoded) : TimersAgree (s.ownGood mm d) := by
  have unrefreshed : TimersAgree (s.unrefreshIf mm) := h.frame
  unfold State.ownGood
  dsimp only
  split
  · split
    · rename_i hi
      exact unrefreshed.takeReadback hi.1
    · exact unrefreshed
  all_goals exact unrefreshed

theorem ownRecord (h : TimersAgree s) (c : Content) : TimersAgree (s.ownRecord c) := by
  have doubted : TimersAgree s.unrefresh.openingDoubt := TimersAgree.openingDoubt (h.setView _)
  unfold State.ownRecord
  split
  · exact h
  · split
    · exact h.ownGood ..
    · exact h.openingDoubt
    all_goals exact doubted

theorem duplicateRecord (h : TimersAgree s) (mm : Bool) : TimersAgree (s.duplicateRecord mm) :=
  (TimersAgree.fire (s := s.unrefreshIf mm) h.frame .duplicateId).setView _

/-! ### The Link Transmitter -/

theorem sentRestartsIsolation (h : TimersAgree s) : TimersAgree s.sentRestartsIsolation := by
  unfold State.sentRestartsIsolation
  split
  · rename_i hi
    refine ite ?_ ?_
    all_goals exact { h with isolation := (Eq.symm hi).trans h.isolation }
  · exact h

theorem afterCheck (h : TimersAgree s) (passed : Bool) : TimersAgree (s.afterCheck passed) := by
  have ends : TimersAgree s.endRun := { h with }
  unfold State.afterCheck
  split
  · exact { h with }
  · refine ite (ite ?_ ?_) (ite ends (ite ?_ ends))
    all_goals exact { h with }

theorem checkPasses (h : TimersAgree s) : TimersAgree s.checkPasses := by
  refine TimersAgree.afterCheck (s := s.setLtx _) ?_ true
  exact { h with }

theorem checkFails (h : TimersAgree s) : TimersAgree s.checkFails := by
  refine TimersAgree.afterCheck (TimersAgree.fire (s := s.setLtx _) ?_ .lineFault) false
  exact { h with }

theorem attemptSent (h : TimersAgree s) (good : Bool) : TimersAgree (s.attemptSent good) := by
  unfold State.attemptSent
  split
  · exact h
  · rename_i a _
    have released : TimersAgree s.releaseSdl := { h with }
    have settled : TimersAgree (s.releaseSdl.sentSettlesIntent a) := by
      refine ite ?_ released
      exact { h with }
    refine ite (ite released.checkPasses released.checkFails) (sentRestartsIsolation ?_)
    unfold State.sentLeavesSet
    split
    all_goals exact { settled with }

theorem attemptFailed (h : TimersAgree s) (k : FrameKind) (raise : PendEntry → PendEntry) :
    TimersAgree (s.attemptFailed k raise) := by
  unfold State.attemptFailed
  split
  · refine ite ?_ h
    exact { h with }
  · refine ite ?_ (ite ?_ ?_)
    all_goals exact { h with }

theorem loseArbitration (h : TimersAgree s) (k : FrameKind) : TimersAgree (s.loseArbitration k) := by
  refine ite ?_ (attemptFailed ?_ _ _)
  all_goals exact { h with }

theorem meetFault (h : TimersAgree s) (k : FrameKind) : TimersAgree (s.meetFault k) := by
  have fault : TimersAgree (s.releaseSdl.sdlReadsRecessive.setCounters
      { s.lport.counters with txFault := bump s.lport.counters.txFault }) := { h with }
  exact ite (fault.fire _).checkFails ((fault.fire _).attemptFailed _ _)

theorem beginRun (h : TimersAgree s) (m : CheckMode) (o : CheckOwner) : TimersAgree (s.beginRun m o) := by
  refine TimersAgree.request (s := (s.setLtx _).setLrx _) ?_ .check
  exact { h with }

theorem nextCheck (h : TimersAgree s) : TimersAgree s.nextCheck := by
  refine TimersAgree.request (s := s.setLtx _) ?_ .check
  exact { h with }

theorem stopRun (h : TimersAgree s) : TimersAgree s.stopRun := by
  unfold State.stopRun
  split
  · exact h
  · split
    · exact { h with }
    · refine ite ?_ ?_
      all_goals exact { h with }
    · exact h

theorem announceExpires (h : TimersAgree s) (hd : s.announceDue = true) :
    TimersAgree ((s.setLtx { s.ltx with announce := some s.period }).request .announce) := by
  have runs : s.ltx.announce.isSome = true := by rw [(expired_eq_true_iff _).1 hd]; rfl
  refine TimersAgree.request (s := s.setLtx _) ?_ .announce
  exact { h with announce := runs.symm.trans h.announce }

/-! ### The Link Receiver -/

theorem discardFrame (h : TimersAgree s) (bs : List Byte) (n : Nat) (c : Content) : TimersAgree (s.discardFrame bs n c) :=
  TimersAgree.settle (h.frame (t := State.handRecord (s.setLrxState .discard) _))

theorem alignAnnounce (h : TimersAgree s) (x : Nat) : TimersAgree (s.alignAnnounce x) := by
  unfold State.alignAnnounce
  split
  · rename_i hr
    exact { h with announce := hr.1.symm.trans h.announce }
  · exact h

theorem handOff (h : TimersAgree s) (c : Classified) (bs : List Byte) : TimersAgree (s.handOff c bs) := by
  unfold State.handOff
  split
  · exact ite h (h.alignAnnounce _)
  all_goals exact h

theorem frameEnds (h : TimersAgree s) (bs : List Byte) : TimersAgree (s.frameEnds bs) := by
  have recorded (l : Lrx) (r : FrameRecord) : TimersAgree ((s.setLrx l).handRecord r) := h.frame
  exact (((recorded _ _).handOff _ _).attemptSent _).settle

theorem seesIdle (h : TimersAgree s) : TimersAgree s.seesIdle := by
  refine ite ?_ h
  exact { h with }

theorem frameStart (h : TimersAgree s) (ht : s.frameStart = some t) : TimersAgree t := by
  rcases (s.frameStart_eq_some_iff t).1 ht with ⟨-, rfl⟩ | ⟨-, -, -, rfl⟩
  · refine ite ?_ h.seesIdle
    exact { h.seesIdle with }
  · exact h

theorem sdlIdle (h : TimersAgree s) : TimersAgree s.sdlIdle := by
  refine ite ?_ h
  exact { h with }

/-! ### Trips and the shed line -/

theorem endHold (h : TimersAgree s) : TimersAgree s.endHold := { h with tripHold := by simp [State.endHold] }

theorem countTrip (h : TimersAgree s) : TimersAgree s.countTrip := { h.fire .trip with }

theorem latchTrip (h : TimersAgree s) : TimersAgree s.latchTrip := by
  refine TimersAgree.fire (s := s.setCmon _) ?_ .tripLatched
  exact { h with tripHold := by simp }

theorem holdTrip (h : TimersAgree s) (m : TripMode) : TimersAgree (s.holdTrip m) :=
  { h with tripHold := by simp [State.holdTrip] }

theorem actOnTrip (h : TimersAgree s) : TimersAgree s.actOnTrip := by
  unfold State.actOnTrip
  split
  · exact h
  · exact h.latchTrip
  all_goals exact ite (h.latchTrip.fire .overdrawPersistent) (h.holdTrip _)

/-- The latch holds no timer, and neither does CLEAR. -/
theorem releaseLatch (h : TimersAgree s) (hl : s.cmon.trip = .latched) : TimersAgree s.releaseLatch := by
  have stopped : s.cmon.hold = none := by
    rw [← Option.not_isSome_iff_eq_none, h.tripHold, hl]
    simp
  refine TimersAgree.settle (s := s.setCmon _) ?_
  exact { h with tripHold := by simp [stopped] }

theorem observeAsserted (h : TimersAgree s) : TimersAgree s.observeAsserted := by
  refine TimersAgree.fire (s := (s.setSlu _).giveSlu _) ?_ .shedSeen
  exact { h with }

theorem observeReleased (h : TimersAgree s) : TimersAgree s.observeReleased := by
  refine ite ?_ ?_
  all_goals exact { h with }

theorem observesDue (h : TimersAgree s) : TimersAgree s.observesDue :=
  ite h.observeAsserted.settle (ite h.observeReleased.settle h)

/-! ### The alarms, and the passing of time -/

theorem auNoticesTaken (h : TimersAgree s) (cleared : Word16) : TimersAgree (s.auNoticesTaken cleared) := by
  refine s.auNoticesTaken_induction cleared TimersAgree h fun t ht n => ?_
  have taken : TimersAgree t.takeAu := { ht with }
  cases n with
  | forceAlarm k => exact taken.withdrawalCause.endOfCeEvent
  | cleared => exact taken.endOfCeEvent

theorem clearNamed (h : TimersAgree s) (named : Word16) : TimersAgree (s.clearNamed named) := by
  refine settle (ite ?_ ?_)
  all_goals exact { h with }

theorem tick (h : TimersAgree s) : TimersAgree s.tick := by
  refine ite h ?_
  exact
    { h with
      hold := by simpa [State.tickOwn] using h.hold
      retry := by simpa [State.tickOwn] using h.retry
      listen := by simpa [State.tickOwn] using h.listen
      announce := (countDown_isSome _).trans h.announce
      isolation := (countUp_isSome _).trans h.isolation
      tripHold := by simpa [State.tickCmon] using h.tripHold }

end TimersAgree

end Sys2Proof.Machine
end

section
/-! ## What each command does to the timers, and every step (O58) -/

namespace Sys2Proof.Machine

namespace TimersAgree

variable {s : State}

theorem leads_if {t : State} {b : Bool} (h : TimersAgree s) (ht : b = true → TimersAgree t) :
    Leads (if b then .next t else .next s) TimersAgree := leads_ite ht h

/-- A request whose carrying out keeps the agreement does so with its answer. -/
theorem leads_answer (h : TimersAgree s) (request : Byte) (enough taken inRange : Bool) (carry : State → Carried)
    (carried : taken = true → ∀ t, t = s.endTransaction → TimersAgree t → TimersAgree (carry t).state) :
    Leads (.next (s.answer request enough taken inRange carry)) TimersAgree := by
  have ended : TimersAgree s.endTransaction := { h with }
  have answers {t : State} (ht : TimersAgree t) (code : RespCode) (data : List Byte) :
      TimersAgree (t.respond code request data) := { ht with }
  refine (leads_next ..).2 (s.answer_induction TimersAgree request enough taken inRange carry h ?_ ?_)
  · exact fun code => answers ended code []
  · exact fun _ _ taken _ => answers (carried taken _ rfl ended) _ _

/-! ### The Link Receiver and the Link Transmitter -/

theorem execStartDelimiter (h : TimersAgree s) : Leads (execStartDelimiter s) TimersAgree := by
  unfold Machine.execStartDelimiter
  split
  · exact (leads_next ..).2 h
  · rename_i t ht
    exact (leads_next ..).2 { h.frameStart ht with }

theorem execMalformedStart (h : TimersAgree s) : Leads (execMalformedStart s) TimersAgree := by
  unfold Machine.execMalformedStart
  split
  · exact (leads_next ..).2 h
  · rename_i t ht
    exact (leads_next ..).2 ((h.frameStart ht).discardFrame ..)

theorem execViolation (h : TimersAgree s) : Leads (execViolation s) TimersAgree := by
  unfold Machine.execViolation
  split
  · exact (leads_next ..).2 (h.discardFrame ..)
  all_goals exact (leads_next ..).2 h

theorem execTooLong (h : TimersAgree s) : Leads (execTooLong s) TimersAgree := by
  unfold Machine.execTooLong
  split
  · split
    · exact (leads_next ..).2 (h.discardFrame ..)
    · exact (leads_next ..).2 h
  all_goals exact (leads_next ..).2 h

theorem execEndDelimiter (h : TimersAgree s) : Leads (execEndDelimiter s) TimersAgree := by
  have recessive : TimersAgree s.sdlTwoCellsRecessive := { h with }
  unfold Machine.execEndDelimiter
  split
  · exact (leads_next ..).2 (recessive.frameEnds _)
  all_goals exact h.leads_if fun _ => (recessive.attemptSent false).settle

theorem execLineIdle (h : TimersAgree s) : Leads (execLineIdle s) TimersAgree := by
  unfold Machine.execLineIdle
  split
  · split
    case h_4 => exact (leads_next ..).2 h.sdlIdle
    case h_5 => exact (leads_next ..).2 h
    all_goals exact (leads_next ..).2 { h.sdlIdle with }
  · exact (leads_next ..).2 h

theorem execWholeByte (h : TimersAgree s) (b : Byte) : Leads (execWholeByte b s) TimersAgree := by
  unfold Machine.execWholeByte
  split
  · split
    · dsimp only
      split
      all_goals exact (leads_next ..).2 { h with }
    · exact (leads_next ..).2 (h.discardFrame ..)
  all_goals exact (leads_next ..).2 h

theorem execAttemptStart (h : TimersAgree s) : Leads (execAttemptStart s) TimersAgree := by
  unfold Machine.execAttemptStart
  split
  · exact (leads_next ..).2 h
  · exact (leads_next ..).2 { h with }

theorem execLostArbitration (h : TimersAgree s) : Leads (execLostArbitration s) TimersAgree := by
  unfold Machine.execLostArbitration
  split
  · exact (leads_next ..).2 h
  · exact (leads_next ..).2 (h.loseArbitration _)

theorem execTransmitFault (h : TimersAgree s) : Leads (execTransmitFault s) TimersAgree := by
  unfold Machine.execTransmitFault
  split
  · exact (leads_next ..).2 h
  · exact (leads_next ..).2 (h.meetFault _).settle

/-! ### The records, timers and notices of the Claim Engine -/

theorem execTakeAnnounce (h : TimersAgree s) : Leads (execTakeAnnounce s) TimersAgree := by
  unfold Machine.execTakeAnnounce
  split
  · exact (leads_next ..).2 (TimersAgree.confirm h.frame _).endOfCeEvent
  all_goals exact (leads_next ..).2 h

theorem execTakeIntent (h : TimersAgree s) : Leads (execTakeIntent s) TimersAgree := by
  unfold Machine.execTakeIntent
  split
  · exact (leads_next ..).2 (TimersAgree.confirm h.frame _).endOfCeEvent
  all_goals exact (leads_next ..).2 h

theorem execTakeSettle (h : TimersAgree s) : Leads (execTakeSettle s) TimersAgree := by
  unfold Machine.execTakeSettle
  split
  · exact (leads_next ..).2 (TimersAgree.confirm h.frame _).endOfCeEvent
  all_goals exact (leads_next ..).2 h

theorem execTakeLeave (h : TimersAgree s) : Leads (execTakeLeave s) TimersAgree := by
  unfold Machine.execTakeLeave
  split
  · exact (leads_next ..).2 (TimersAgree.confirm h.frame _).endOfCeEvent
  all_goals exact (leads_next ..).2 h

theorem dropHead (h : TimersAgree s) : TimersAgree s.dropHead := { h with }

theorem execTakeOwnRecord (h : TimersAgree s) : Leads (execTakeOwnRecord s) TimersAgree := by
  unfold Machine.execTakeOwnRecord
  split
  · exact (leads_next ..).2 (h.dropHead.ownRecord _).endOfCeEvent
  all_goals exact (leads_next ..).2 h

theorem execTakeDuplicateRecord (h : TimersAgree s) : Leads (execTakeDuplicateRecord s) TimersAgree := by
  unfold Machine.execTakeDuplicateRecord
  split
  · exact (leads_next ..).2 (h.dropHead.duplicateRecord _).endOfCeEvent
  all_goals exact (leads_next ..).2 h

theorem execTakeErrorRecord (h : TimersAgree s) : Leads (execTakeErrorRecord s) TimersAgree := by
  unfold Machine.execTakeErrorRecord
  split
  · exact (leads_next ..).2 (endOfCeEvent (ite h.dropHead (h.dropHead.setView _)))
  all_goals exact (leads_next ..).2 h

theorem execTakeLossRecord (h : TimersAgree s) : Leads (execTakeLossRecord s) TimersAgree := by
  unfold Machine.execTakeLossRecord
  split
  · exact (leads_next ..).2 (TimersAgree.openingDoubt (h.dropHead.setView _)).endOfCeEvent
  all_goals exact (leads_next ..).2 h

theorem execTakeCheckRecord (h : TimersAgree s) : Leads (execTakeCheckRecord s) TimersAgree := by
  unfold Machine.execTakeCheckRecord
  split
  · exact (leads_next ..).2 h.dropHead.endOfCeEvent
  all_goals exact (leads_next ..).2 h

theorem execPeerLost (h : TimersAgree s) (id : Nat) : Leads (execPeerLost id s) TimersAgree := by
  unfold Machine.execPeerLost
  split
  · exact (leads_next ..).2 h
  · refine h.leads_if fun _ => endOfCeEvent ?_
    exact { h with }

theorem execPeerForgotten (h : TimersAgree s) (id : Nat) : Leads (execPeerForgotten id s) TimersAgree := by
  unfold Machine.execPeerForgotten
  split
  · exact (leads_next ..).2 h
  · exact h.leads_if fun _ => (h.setView _).endOfCeEvent

theorem execHoldWindowExpiry (h : TimersAgree s) : Leads (execHoldWindowExpiry s) TimersAgree :=
  h.leads_if fun hd => (h.decideIntent (by simpa using (Bool.and_eq_true_iff.1 hd).1)).endOfCeEvent

/-- RETRY_WAIT ends in IDLE, where no timer of an intent runs. -/
theorem execRetryTimerExpiry (h : TimersAgree s) : Leads (execRetryTimerExpiry s) TimersAgree := by
  refine h.leads_if fun hd => endOfCeEvent ?_
  have hi : s.own.intentState = .retryWait := by simpa using (Bool.and_eq_true_iff.1 hd).1
  have current : s.own.current = none := by
    rw [← Option.not_isSome_iff_eq_none, h.current]
    simp [hi]
  exact
    { h with
      current := by simp [current]
      hold := by simp [h.hold_eq_none, hi]
      retry := by simp
      settling := fun hx => nomatch hx
      idle := fun _ _ => rfl
      openMarks := fun _ => h.openMarks (by simp [hi])
      confirmed := fun hc => absurd hc (h.not_confirmed (by simp [hi])) }

theorem execListenTimerExpiry (h : TimersAgree s) : Leads (execListenTimerExpiry s) TimersAgree := by
  refine h.leads_if fun hd => endOfCeEvent ?_
  have ha : s.own.attach = .listening := by simpa using (Bool.and_eq_true_iff.1 hd).1
  have attached : s.attached = true := by simp [State.attached, ha]
  exact
    { h with
      listen := by simp
      announce := h.announce.trans attached
      isolation := h.isolation.trans attached
      idle := fun hj => absurd rfl hj
      isolated := fun _ => rfl }

theorem takeLtx (h : TimersAgree s) : TimersAgree s.takeLtx := { h with }

theorem execSentNotice (h : TimersAgree s) : Leads (execSentNotice s) TimersAgree := by
  unfold Machine.execSentNotice
  split
  · exact (leads_next ..).2 (h.takeLtx.takeSent _).endOfCeEvent
  · exact (leads_next ..).2 h

theorem execDroppedNotice (h : TimersAgree s) : Leads (execDroppedNotice s) TimersAgree := by
  unfold Machine.execDroppedNotice
  split
  · exact (leads_next ..).2 (h.takeLtx.takeDropped _).endOfCeEvent
  · exact (leads_next ..).2 h

theorem execRecalledNotice (h : TimersAgree s) : Leads (execRecalledNotice s) TimersAgree := by
  unfold Machine.execRecalledNotice
  split
  · exact (leads_next ..).2 h.takeLtx.takeRecalled.endOfCeEvent
  · exact (leads_next ..).2 h

theorem execIsolatedNotice (h : TimersAgree s) : Leads (execIsolatedNotice s) TimersAgree := by
  unfold Machine.execIsolatedNotice
  split
  · exact (leads_next ..).2 h.takeLtx.takeIsolated.endOfCeEvent
  · exact (leads_next ..).2 h

theorem execIsolationEndNotice (h : TimersAgree s) : Leads (execIsolationEndNotice s) TimersAgree := by
  unfold Machine.execIsolationEndNotice
  split
  · exact (leads_next ..).2 h.takeLtx.takeIsolationEnd.endOfCeEvent
  · exact (leads_next ..).2 h

theorem execRejoinNotice (h : TimersAgree s) : Leads (execRejoinNotice s) TimersAgree := by
  unfold Machine.execRejoinNotice
  split
  · exact (leads_next ..).2 (endOfCeEvent (ite h.takeLtx.takeRejoin h.takeLtx))
  · exact (leads_next ..).2 h

theorem execCheckPassed (h : TimersAgree s) : Leads (execCheckPassed s) TimersAgree := by
  unfold Machine.execCheckPassed
  split
  · refine (leads_next ..).2 (endOfCeEvent ?_)
    split
    · rename_i hd
      exact h.takeLtx.enterListening hd
    · exact h.takeLtx
  · exact (leads_next ..).2 h

theorem execCheckFailed (h : TimersAgree s) : Leads (execCheckFailed s) TimersAgree := by
  unfold Machine.execCheckFailed
  split
  · exact (leads_next ..).2 h.takeLtx.endOfCeEvent
  · exact (leads_next ..).2 h

theorem takeSlu (h : TimersAgree s) : TimersAgree s.takeSlu := { h with }

theorem execShedStartNotice (h : TimersAgree s) : Leads (execShedStartNotice s) TimersAgree := by
  unfold Machine.execShedStartNotice
  split
  · exact (leads_next ..).2 h.takeSlu.withdrawalCause.endOfCeEvent
  · exact (leads_next ..).2 h

theorem execShedEndNotice (h : TimersAgree s) : Leads (execShedEndNotice s) TimersAgree := by
  unfold Machine.execShedEndNotice
  split
  · split
    · exact (leads_next ..).2 h
    · exact (leads_next ..).2 h.takeSlu.endOfCeEvent
  · exact (leads_next ..).2 h

theorem takeAu (h : TimersAgree s) : TimersAgree s.takeAu := { h with }

theorem execForceAlarmNotice (h : TimersAgree s) : Leads (execForceAlarmNotice s) TimersAgree := by
  unfold Machine.execForceAlarmNotice
  split
  · exact (leads_next ..).2 h.takeAu.withdrawalCause.endOfCeEvent
  · exact (leads_next ..).2 h

theorem execClearedNotice (h : TimersAgree s) : Leads (execClearedNotice s) TimersAgree := by
  unfold Machine.execClearedNotice
  split
  · exact (leads_next ..).2 h.takeAu.endOfCeEvent
  · exact (leads_next ..).2 h

theorem execProfileChangeEvent (h : TimersAgree s) : Leads (execProfileChangeEvent s) TimersAgree := by
  have taken : TimersAgree s.takePfu := { h with }
  unfold Machine.execProfileChangeEvent
  split
  · exact (leads_next ..).2 (endOfCeEvent (ite (taken.applyProfileChange _) taken))
  · exact (leads_next ..).2 h

/-! ### The other units, and the Local Port -/

theorem execPselChange (h : TimersAgree s) (a b c : Bool) : Leads (execPselChange a b c s) TimersAgree := by
  unfold Machine.execPselChange
  dsimp only
  split
  · exact (leads_next ..).2 { h with }
  · split
    · exact (leads_next ..).2 h
    · exact (leads_next ..).2 { h with }

theorem execShdLevelChange (h : TimersAgree s) (l : Level) : Leads (execShdLevelChange l s) TimersAgree := by
  unfold Machine.execShdLevelChange
  split
  · exact (leads_next ..).2 { h with }
  · split
    · exact (leads_next ..).2 h
    · exact (leads_next ..).2 { h.observesDue with }

theorem execPwmeEdge (h : TimersAgree s) (rising : Bool) : Leads (execPwmeEdge rising s) TimersAgree := by
  have edge : TimersAgree ((s.setPins { s.pins with pwme := rising }).setCmon
      { s.cmon with blanking := s.blankingAtEdge, reached := s.tripDue }) := { h with }
  unfold Machine.execPwmeEdge
  dsimp only
  split
  · exact (leads_next ..).2 { h with }
  · split
    · exact (leads_next ..).2 edge.endHold.settle
    · exact (leads_next ..).2 edge.settle

theorem execTransactionStart (h : TimersAgree s) : Leads (execTransactionStart s) TimersAgree := by
  unfold Machine.execTransactionStart
  split
  · exact (leads_next ..).2 h
  · exact (leads_next ..).2 { h with }

/-- An event whose effect leaves the timers alone but for what follows the outputs. -/
theorem leads_settle_if {t : State} {b : Bool} (h : TimersAgree s) (ht : TimersAgree t) :
    Leads (if b then .next t.settle else .next s) TimersAgree := h.leads_if fun _ => ht.settle

/-- Every command keeps the agreement. -/
theorem exec (c : Instr) (h : TimersAgree s) : Leads (exec c s) TimersAgree := by
  cases c with
  | fullReset => exact (leads_next ..).2 (.inFullReset ..)
  | startDelimiter => exact h.execStartDelimiter
  | malformedStart => exact h.execMalformedStart
  | violation => exact h.execViolation
  | tooLong => exact h.execTooLong
  | endDelimiter => exact h.execEndDelimiter
  | lineIdle => exact h.execLineIdle
  | wholeByte b => exact h.execWholeByte b
  | sdlDominant => exact (leads_next ..).2 { h.seesIdle with }
  | attemptStart => exact h.execAttemptStart
  | lostArbitration => exact h.execLostArbitration
  | transmitFault => exact h.execTransmitFault
  | announceTimerExpiry => exact h.leads_if h.announceExpires
  | isolationTimer3P => exact h.leads_if fun _ => { h with }
  | isolationTimer40P => exact h.leads_if fun _ => { h with }
  | repeatTimerExpiry => exact h.leads_if fun _ => h.nextCheck
  | peerLost id => exact h.execPeerLost id
  | peerForgotten id => exact h.execPeerForgotten id
  | duplicateTimerExpiry => exact h.leads_if fun _ => (h.setView _).endOfCeEvent
  | takeAnnounce => exact h.execTakeAnnounce
  | takeIntent => exact h.execTakeIntent
  | takeSettle => exact h.execTakeSettle
  | takeLeave => exact h.execTakeLeave
  | takeOwnRecord => exact h.execTakeOwnRecord
  | takeDuplicateRecord => exact h.execTakeDuplicateRecord
  | takeErrorRecord => exact h.execTakeErrorRecord
  | takeLossRecord => exact h.execTakeLossRecord
  | takeCheckRecord => exact h.execTakeCheckRecord
  | holdWindowExpiry => exact h.execHoldWindowExpiry
  | retryTimerExpiry => exact h.execRetryTimerExpiry
  | listenTimerExpiry => exact h.execListenTimerExpiry
  | sentNotice => exact h.execSentNotice
  | droppedNotice => exact h.execDroppedNotice
  | recalledNotice => exact h.execRecalledNotice
  | isolatedNotice => exact h.execIsolatedNotice
  | isolationEndNotice => exact h.execIsolationEndNotice
  | rejoinNotice => exact h.execRejoinNotice
  | checkPassed => exact h.execCheckPassed
  | checkFailed => exact h.execCheckFailed
  | shedStartNotice => exact h.execShedStartNotice
  | shedEndNotice => exact h.execShedEndNotice
  | forceAlarmNotice => exact h.execForceAlarmNotice
  | clearedNotice => exact h.execClearedNotice
  | pselChange a b c => exact h.execPselChange a b c
  | settleTimerExpiry => exact h.leads_if fun _ => { h with }
  | profileChangeEvent => exact h.execProfileChangeEvent
  | shdLevelChange l => exact h.execShdLevelChange l
  | shdObservedAsserted => exact h.leads_settle_if h.observeAsserted
  | shdObservedReleased => exact h.leads_settle_if h.observeReleased
  | recoveryTimerExpiry => exact h.leads_settle_if { h with }
  | pwmeEdge rising => exact h.execPwmeEdge rising
  | blankingEnd => exact h.leads_settle_if { h with }
  | senseChange n => exact (leads_next ..).2 (settle { h with })
  | trip => exact h.leads_settle_if h.countTrip.actOnTrip
  | tripHoldEnd => exact h.leads_settle_if h.endHold
  | cleanTimerExpiry => exact h.leads_if fun _ => { h with }
  | followTimerExpiry => exact h.leads_settle_if { h with }
  | transactionStart => exact h.execTransactionStart
  | transactionWithoutRequest => exact h.leads_if fun _ => { h with }
  | unknownRequest code => exact h.leads_if fun _ => { h with }
  | nop => exact h.leads_if fun _ => { h with }
  | readStatus => exact h.leads_answer _ _ _ _ _ fun _ t _ ht => ht
  | readSnapshot ps => exact h.leads_answer _ _ _ _ _ fun _ t _ ht => ht
  | readCapture => exact h.leads_answer _ _ _ _ _ fun _ t _ ht => { ht with }
  | readCounters ps => exact h.leads_answer _ _ _ _ _ fun _ t _ ht => ite { ht with } ht
  | configure ps => exact h.leads_answer _ _ _ _ _ fun _ t _ ht => settle { ht with }
  | join => exact h.leads_answer _ _ _ _ _ fun _ t _ ht => ht.beginRun _ _
  | leave => exact h.leads_answer _ _ _ _ _ fun _ t _ ht => ht.takeLeaveRequest.endOfCeEvent
  | setTarget ps => exact h.leads_answer _ _ _ _ _ fun _ t _ ht => (ht.applyTarget _ _).endOfCeEvent
  | reEnable =>
    refine h.leads_answer _ _ _ _ _ fun taken t ht agree => agree.releaseLatch ?_
    simpa [ht] using taken
  | assertShed => exact h.leads_answer _ _ _ _ _ fun _ t _ ht => settle { ht with }
  | releaseShed => exact h.leads_answer _ _ _ _ _ fun _ t _ ht => settle { ht with }
  | clearAlarms ps => exact h.leads_answer _ _ _ _ _ fun _ t _ ht => (ht.auNoticesTaken _).clearNamed _
  | takeSnapshot => exact h.leads_answer _ _ _ _ _ fun _ t _ ht => endOfCeEvent { ht with }
  | lineCheck ps => exact h.leads_answer _ _ _ _ _ fun _ t _ ht => ht.beginRun _ _
  | stopCheck => exact h.leads_answer _ _ _ _ _ fun _ t _ ht => ht.stopRun
  | endOfFullReset => exact h.leads_if fun _ => { h with }
  | resetIgnoreEnd => exact h.leads_if fun _ => { h with }

end TimersAgree

/-- Settles O58: each command and the passing of time keep the agreement. -/
theorem timersStayInAgreement : Obligations.TimersStayInAgreement := fun s t h hstep => by
  rcases step_cases s t hstep with ⟨c, q, n, he⟩ | ⟨n, rfl⟩
  · exact TimersAgree.exec c (s := (s.setPending q).setFreeCount n) { h with } t he
  · exact TimersAgree.tick (s := s.setFreeCount n) { h with }

end Sys2Proof.Machine
end

section
/-! ## Which of two contending frames wins (O15) -/

namespace Sys2Proof.Machine

/-- A run of data bits read with the first bit sent as the highest. -/
def bitsValue : List Bool → Nat
  | [] => 0
  | b :: bs => b.toNat * 2 ^ bs.length + bitsValue bs

theorem bitsValue_lt (bs : List Bool) : bitsValue bs < 2 ^ bs.length := by
  induction bs with
  | nil => decide
  | cons b bs ih =>
    have := b.toNat_le
    rw [bitsValue, List.length_cons, pow_succ]
    nlinarith

/-- Of two different runs of one length the one of lower value wins: at their first difference it sends 0. -/
theorem firstWins_of_ne (as bs : List Bool) (hlen : as.length = bs.length) (hne : as ≠ bs) :
    firstWins as bs = some (decide (bitsValue as < bitsValue bs)) := by
  induction as generalizing bs with
  | nil => exact absurd (List.length_eq_zero_iff.1 hlen.symm).symm hne
  | cons a as ih =>
    cases bs with
    | nil => cases hlen
    | cons b bs =>
      have hl : as.length = bs.length := Nat.succ.inj hlen
      have ha := bitsValue_lt as
      have hb := bitsValue_lt bs
      rw [firstWins, bitsValue, bitsValue, hl]
      rw [hl] at ha
      split
      · rename_i hab
        subst hab
        rw [ih bs hl (fun h => hne (h ▸ rfl))]
        simp
      · rename_i hab
        cases a <;> cases b <;> simp_all <;> omega

/-- What two runs settle is settled for every pair of frames that begin with them. -/
theorem firstWins_append (as bs xs ys : List Bool) (r : Bool) (h : firstWins as bs = some r) :
    firstWins (as ++ xs) (bs ++ ys) = some r := by
  induction as generalizing bs with
  | nil => cases h
  | cons a as ih =>
    cases bs with
    | nil => cases h
    | cons b bs =>
      rw [firstWins] at h
      rw [List.cons_append, List.cons_append, firstWins]
      split at h
      · rename_i hab
        rw [if_pos hab]
        exact ih bs h
      · rename_i hab
        rw [if_neg hab]
        exact h

/-- What two frames have in common at their start settles nothing. -/
theorem firstWins_append_self (zs xs ys : List Bool) : firstWins (zs ++ xs) (zs ++ ys) = firstWins xs ys := by
  induction zs with
  | nil => rfl
  | cons z zs ih => simpa [firstWins] using ih

/-- A frame begins with the kind code and the sender ID (R41). -/
theorem bitsSent_buildFrame (k : FrameKind) (id count : Nat) (payload : List Byte) :
    ∃ rest, bitsSent (buildFrame k id count payload) = bitsLsbFirst (u8 k.code) ++ (bitsLsbFirst (u8 id) ++ rest) :=
  ⟨_, rfl⟩

theorem bitsValue_bitsLsbFirst (n : Nat) (h : n ≤ 31) : bitsValue (bitsLsbFirst (u8 n)) =
    8 * (n % 2 * 16 + n / 2 % 2 * 8 + n / 4 % 2 * 4 + n / 8 % 2 * 2 + n / 16) := by
  have bit (k : Nat) (hk : k < 8) : ((u8 n).getLsbD k).toNat = n / 2 ^ k % 2 := by
    simp only [u8, BitVec.getLsbD_ofNat, hk, decide_true, Bool.true_and, Nat.toNat_testBit]
  simp only [bitsLsbFirst, List.range, List.range.loop, List.map, bitsValue, List.length, bit, Nat.reduceLT, Nat.reducePow,
    Nat.reduceAdd]
  omega

/-- Settles O15: the kind codes differ in their bits, and under one kind code the IDs decide. -/
theorem arbitrationOrder : Obligations.ArbitrationOrder := by
  refine ⟨fun k j a b m n p q hkj => ?_, fun k a b m n p q ha hb hab => ?_⟩
  · obtain ⟨x, hx⟩ := bitsSent_buildFrame k a m p
    obtain ⟨y, hy⟩ := bitsSent_buildFrame j b n q
    have codes : ∀ c ∈ [(FrameKind.settle, FrameKind.leave), (.settle, .intent), (.settle, .announce), (.settle, .check),
        (.leave, .intent), (.leave, .announce), (.leave, .check), (.intent, .announce), (.intent, .check),
        (.announce, .check)], firstWins (bitsLsbFirst (u8 c.1.code)) (bitsLsbFirst (u8 c.2.code)) = some true := by
      decide
    rw [hx, hy]
    exact firstWins_append _ _ _ _ _ (codes (k, j) hkj)
  · obtain ⟨x, hx⟩ := bitsSent_buildFrame k a m p
    obtain ⟨y, hy⟩ := bitsSent_buildFrame k b n q
    have va := bitsValue_bitsLsbFirst a ha
    have vb := bitsValue_bitsLsbFirst b hb
    have differ : bitsLsbFirst (u8 a) ≠ bitsLsbFirst (u8 b) := fun h => by
      have : a % 2 ^ 8 = b % 2 ^ 8 := congrArg BitVec.toNat (Function.LeftInverse.injective byteOfBits_bitsLsbFirst h)
      omega
    rw [hx, hy, firstWins_append_self]
    refine firstWins_append _ _ _ _ _ ?_
    rw [firstWins_of_ne (bitsLsbFirst (u8 a)) (bitsLsbFirst (u8 b)) rfl differ, va, vb]
    simp

end Sys2Proof.Machine
end

section
/-! ## Requests and the start of an attempt (O16, O17) -/

namespace Sys2Proof.Machine

namespace State

variable (s : State)

theorem inFlight_eq_true_iff (k : FrameKind) : s.inFlight k = true ↔ ∃ a, s.ltx.attempt = some a ∧ a.kind = k := by
  simp [inFlight, Option.any_eq_true]

theorem inFlight_eq_false (k : FrameKind) (h : ∀ a, s.ltx.attempt = some a → a.kind ≠ k) : s.inFlight k = false := by
  rw [← Bool.not_eq_true, inFlight_eq_true_iff]
  rintro ⟨a, ha, hk⟩
  exact h a ha hk

/-- R20: a kind that is not in the set is added with both counts 0. -/
theorem request_of_absent (k : FrameKind) (ht : s.requestTaken k = true) (h : s.ltx.pend.get k = none) :
    s.request k = s.setPend (s.ltx.pend.put k (some PendingSet.fresh)) := by
  simp [request, ht, h]

/-- R20: a kind that is in the set stays in it once, and an attempt in flight is to be renewed. -/
theorem request_of_present (k : FrameKind) (e : PendEntry) (ht : s.requestTaken k = true) (h : s.ltx.pend.get k = some e) :
    s.request k = if s.inFlight k then s.setPend (s.ltx.pend.put k (some { e with renewal := true })) else s := by
  simp [request, ht, h]

end State

/-- Settles O16: a request by the kinds that are taken and by the set, a recall by what is in flight or waits. -/
theorem requestsToTheTransmitter : Obligations.RequestsToTheTransmitter := by
  refine ⟨fun s k => ⟨?_, s.request_of_ignored k, s.request_of_absent k, fun e a ht he ha hk => ?_, fun e ht he hn => ?_⟩,
    fun s => ⟨fun a ha hk => ?_, fun e hn he => ?_, fun hn he => ?_⟩⟩
  · by_cases hk : k = .check
    · subst hk
      simp [s.requestTaken_check_iff]
    · rw [s.requestTaken_iff k hk]
      cases s.own.attach <;> simp [hk]
  · rw [s.request_of_present k e ht he, if_pos ((s.inFlight_eq_true_iff k).2 ⟨a, ha, hk⟩)]
    rfl
  · rw [s.request_of_present k e ht he, s.inFlight_eq_false k hn]
    rfl
  · exact if_pos ((s.inFlight_eq_true_iff .intent).2 ⟨a, ha, hk⟩)
  · rw [State.recallIntent, s.inFlight_eq_false .intent hn, he]
    rfl
  · rw [State.recallIntent, s.inFlight_eq_false .intent hn, he]
    rfl

/-! ### The candidate and its gap -/

namespace PendingSet

/-- The kinds in the order of priority (R22). -/
def byPriority : List FrameKind := [.settle, .leave, .intent, .announce, .check]

theorem mem_byPriority (k : FrameKind) : k ∈ byPriority := by cases k <;> decide

/-- The candidate is the first kind in the order of priority that is in the set. -/
theorem candidate_eq_find? (p : PendingSet) : p.candidate = byPriority.find? (fun k => (p.get k).isSome) := by
  unfold candidate
  simp only [byPriority, List.find?, get]
  cases p.settle.isSome <;> cases p.leave.isSome <;> cases p.intent.isSome <;> cases p.announce.isSome <;>
    cases p.check.isSome <;> rfl

theorem candidate_first (p : PendingSet) (k : FrameKind) (h : p.candidate = some k) :
    (p.get k).isSome = true ∧ ∀ j, (p.get j).isSome = true → byPriority.idxOf k ≤ byPriority.idxOf j := by
  rw [candidate_eq_find?, List.find?_eq_some_iff_append] at h
  obtain ⟨hk, before, after, hl, hb⟩ := h
  have later (j : FrameKind) (hj : (p.get j).isSome = true) : j ∉ before := fun hm => by simpa [hj] using hb j hm
  refine ⟨hk, fun j hj => ?_⟩
  rw [hl, List.idxOf_append_of_notMem (later k hk), List.idxOf_append_of_notMem (later j hj)]
  simp

theorem candidate_eq_some_iff (p : PendingSet) (k : FrameKind) : p.candidate = some k ↔
    (p.get k).isSome = true ∧ ∀ j, (p.get j).isSome = true → byPriority.idxOf k ≤ byPriority.idxOf j := by
  refine ⟨p.candidate_first k, fun ⟨hk, hfirst⟩ => ?_⟩
  cases hc : p.candidate with
  | none =>
    rw [candidate_eq_find?, List.find?_eq_none] at hc
    exact absurd hk (hc k (mem_byPriority k))
  | some j =>
    obtain ⟨hj, firstJ⟩ := p.candidate_first j hc
    exact congrArg some ((List.idxOf_inj (mem_byPriority j)).1 (le_antisymm (firstJ k hk) (hfirst j hj)))

end PendingSet

namespace State

variable (s : State)

theorem exec_attemptStart_of_due (k : FrameKind) (h : s.attemptDue = some k) :
    exec .attemptStart s = .next (s.beginAttempt k) := by
  change execAttemptStart s = _
  rw [execAttemptStart, h]

theorem exec_attemptStart_of_not_due (h : s.attemptDue = none) : exec .attemptStart s = .next s := by
  change execAttemptStart s = _
  rw [execAttemptStart, h]

/-- While the gap of the candidate is not reached, no attempt is due. -/
theorem attemptDue_eq_none_of_gap (k : FrameKind) (hc : s.ltx.pend.candidate = some k)
    (hg : s.gapReached (k.gapBits * s.bitTime) ≠ true) : s.attemptDue = none := by
  rw [Option.eq_none_iff_forall_ne_some]
  intro j hj
  obtain ⟨-, -, -, hc', hg'⟩ := (s.attemptDue_eq_some_iff j).1 hj
  rw [hc] at hc'
  cases hc'
  exact hg hg'

/-- R23: the line count field. -/
theorem countField_eq (k : FrameKind) : s.countField k =
    if k = .check then 0 else match s.lrx.lineCount with | none => 0 | some c => (c + 1) % 65536 := by
  unfold countField
  cases k <;> cases s.lrx.lineCount <;> rfl

theorem beginAttempt_eq (k : FrameKind) : s.beginAttempt k = { s with ltx := { s.ltx with
      attempt := some
        { kind := k, beforeRequest := false
          frame := buildFrame k s.ownId
            (if k = .check then 0 else match s.lrx.lineCount with | none => 0 | some c => (c + 1) % 65536) (s.payloadOf k) }
      capture := if k = .check ∧ s.ltx.capture.frozen = false then
        { slots := List.replicate 8 none, index := none, frozen := false } else s.ltx.capture } } := by
  have capture : (if k = .check then s.ltx.capture.restart else s.ltx.capture) =
      if k = .check ∧ s.ltx.capture.frozen = false then Capture.empty else s.ltx.capture := by
    unfold Capture.restart
    by_cases hk : k = .check <;> cases hf : s.ltx.capture.frozen <;> simp [hk]
  unfold beginAttempt frameOf
  rw [capture, countField_eq]
  rfl

theorem openOnLine_eq_true_iff : s.openOnLine = true ↔
    s.own.intentState = .window ∨ (s.own.intentState = .opening ∧ s.ltx.intentSent = true) := by
  simp [openOnLine]

/-- R120: the content of an ANNOUNCE of a configured station. -/
theorem payloadOf_announce (a : AnnouncedState) (c : ConfigRecord) (d : Nat)
    (ha : (s.own.attach = .listening ∧ a = AnnouncedState.listening) ∨ (s.own.attach = .joining ∧ a = .joining) ∨
      (s.own.attach = .member ∧ a = .member)) (hc : s.lport.config = some c) (hd : s.lport.digest = some d) :
    s.payloadOf .announce = announcePayload
      { attach := a, profile := s.pfu.profile, committed := s.own.committed, floor := c.floor, digest := d
        openIntent := if s.openOnLine then some (s.currentIntent.number, s.currentIntent.delta) else none } := by
  have attach : s.announcedState = a := by
    rcases ha with ⟨h, rfl⟩ | ⟨h, rfl⟩ | ⟨h, rfl⟩ <;> simp [announcedState, h]
  have floor : s.floor = c.floor := readConfig_of_some s c hc (·.floor)
  simp only [payloadOf, announceFields, attach, floor, hd, Option.getD_some]

end State

/-- Settles O17: the candidate by its place in the order of priority, the start by `attemptDue`, the payload kind by kind. -/
theorem attemptBegins : Obligations.AttemptBegins := by
  refine ⟨⟨PendingSet.candidate_eq_some_iff, fun s k ha hr hm hc hg => ?_, fun s k hc hb hq => ?_⟩, fun s =>
    ⟨fun r hr => ?_, rfl, fun f hf => ?_, fun c hc => ?_, fun a c d ha hc hd => ⟨fun f hf ho => ?_, fun hw ho => ?_⟩⟩⟩
  · rw [← State.gapBits_eq] at hg
    have due := (s.attemptDue_eq_some_iff k).2
      ⟨ha, s.mayTransmit_eq_true_iff.2 hm, hr, hc, (s.gapReached_eq_true_iff _).2 hg⟩
    exact (s.exec_attemptStart_of_due k due).trans (congrArg _ (s.beginAttempt_eq k))
  · rw [← State.gapBits_eq] at hb hq
    refine s.exec_attemptStart_of_not_due (s.attemptDue_eq_none_of_gap k hc fun hg => ?_)
    rcases (s.gapReached_eq_true_iff _).1 hg with hg | ⟨t, ht, hq', hg⟩
    · exact absurd hg (Nat.not_le.2 hb)
    · exact absurd hg (Nat.not_le.2 (hq t ht hq'))
  · simp only [State.payloadOf, State.settleFields, hr, Option.getD_some]
  · simp only [State.payloadOf, State.currentIntent, hf, Option.getD_some]
  · simp only [State.payloadOf, State.pattern, hc, Option.map_some, Option.getD_some]
    rfl
  · rw [s.payloadOf_announce a c d ha hc hd, if_pos (s.openOnLine_eq_true_iff.2 ho), State.currentIntent, hf]
    rfl
  · rw [s.payloadOf_announce a c d ha hc hd, if_neg fun h => (s.openOnLine_eq_true_iff.1 h).elim hw ho]

end Sys2Proof.Machine
end

section
/-! ## The ends of an attempt before its EOD, and the timers of LTX (O18, O21) -/

namespace Sys2Proof.Machine

namespace State

variable (s : State)

/-- What a lost arbitration leaves before the pending set is looked at (R24, R25). -/
theorem loseArbitration_of_kind (k : FrameKind) (hk : k ≠ .check) :
    s.loseArbitration k = (s.releaseSdl.sdlReadsDominant.setCounters
      { s.lport.counters with lostArb := bump s.lport.counters.lostArb }).attemptFailed k PendEntry.raiseLost :=
  if_neg fun h => hk h.1

/-- What a transmit fault leaves before the pending set is looked at (R24, R27). -/
theorem meetFault_of_kind (k : FrameKind) (hk : k ≠ .check) :
    s.meetFault k = (fire .lineFault (s.releaseSdl.sdlReadsRecessive.setCounters
      { s.lport.counters with txFault := bump s.lport.counters.txFault })).attemptFailed k PendEntry.raiseFault :=
  if_neg hk

/-! ### What becomes of the kind -/

variable {s} {k : FrameKind} {e : PendEntry} {raise : PendEntry → PendEntry}

theorem attemptFailed_of_absent (h : s.ltx.pend.get k = none) (hr : s.ltx.recallHeld = false) :
    s.attemptFailed k raise = s := by
  simp [attemptFailed, h, hr]

theorem attemptFailed_of_recall (h : s.ltx.pend.get k = some e) (hk : k = .intent) (hr : s.ltx.recallHeld = true) :
    s.attemptFailed k raise = s.settleRecall := by
  simp only [attemptFailed, h]
  exact if_pos ⟨hk, hr⟩

theorem attemptFailed_of_limit (h : s.ltx.pend.get k = some e) (hr : ¬(k = .intent ∧ s.ltx.recallHeld = true))
    (hk : k ≠ .check) (hl : 16 ≤ (raise e).lost ∨ 4 ≤ (raise e).fault) : s.attemptFailed k raise = s.dropKind k := by
  simp only [attemptFailed, h]
  rw [if_neg hr, if_pos ⟨hk, hl⟩]

theorem attemptFailed_of_retry (h : s.ltx.pend.get k = some e) (hr : ¬(k = .intent ∧ s.ltx.recallHeld = true))
    (hl : (raise e).lost < 16) (hf : (raise e).fault < 4) :
    s.attemptFailed k raise = s.setPend (s.ltx.pend.put k (some (raise e))) := by
  simp only [attemptFailed, h]
  rw [if_neg hr, if_neg fun hx => hx.2.elim (Nat.not_le.2 hl) (Nat.not_le.2 hf)]

end State

/-- Settles O18: the attempt ends on the wire, and the kind's stay in the set decides what follows. -/
theorem attemptFails : Obligations.AttemptFails := by
  intro s a ha hk
  refine ⟨_, _, rfl, rfl, ?_⟩
  set u := s.releaseSdl.sdlReadsDominant.setCounters { s.lport.counters with lostArb := bump s.lport.counters.lostArb }
  set w := s.releaseSdl.sdlReadsRecessive.setCounters { s.lport.counters with txFault := bump s.lport.counters.txFault }
  have lost : exec .lostArbitration s = .next (u.attemptFailed a.kind PendEntry.raiseLost) :=
    (exec_lostArbitration s a ha).trans (congrArg _ (s.loseArbitration_of_kind a.kind hk))
  have fault : exec .transmitFault s = .next ((w.fire .lineFault).attemptFailed a.kind PendEntry.raiseFault).settle :=
    (exec_transmitFault s a ha).trans (congrArg (fun t => Host.Outcome.next t.settle) (s.meetFault_of_kind a.kind hk))
  have ltx : (w.fire .lineFault).ltx = w.ltx := by simp
  rw [lost, fault]
  refine ⟨fun hn hr => ⟨?_, ?_⟩, fun e he hr => ⟨fun hl hf => ?_, fun hl => ?_, fun hf hl => ?_, fun hf => ?_⟩,
    fun e he hi hr => ⟨?_, ?_⟩⟩
  · rw [State.attemptFailed_of_absent (s := u) hn hr]
    rfl
  · rw [State.attemptFailed_of_absent (by rw [ltx]; exact hn) (by rw [ltx]; exact hr)]
    rfl
  · have raised : e.raiseLost = { e with lost := e.lost + 1 } := by
      simp only [PendEntry.raiseLost, Nat.min_eq_right hl.le]
    rw [State.attemptFailed_of_retry (s := u) he hr (by rw [raised]; exact hl) (by rw [raised]; exact hf), raised]
    rfl
  · have limit : 16 ≤ e.raiseLost.lost := le_min le_rfl (Nat.succ_le_succ hl)
    rw [State.attemptFailed_of_limit (s := u) he hr hk (.inl limit)]
    rfl
  · have raised : e.raiseFault = { e with fault := e.fault + 1 } := by
      simp only [PendEntry.raiseFault, Nat.min_eq_right hf.le]
    rw [State.attemptFailed_of_retry (e := e) (by rw [ltx]; exact he) (by rw [ltx]; exact hr) (by rw [raised]; exact hl)
      (by rw [raised]; exact hf), raised, ltx]
    rfl
  · have limit : 4 ≤ e.raiseFault.fault := le_min le_rfl (Nat.succ_le_succ hf)
    rw [State.attemptFailed_of_limit (by rw [ltx]; exact he) (by rw [ltx]; exact hr) hk (.inr limit)]
    simp only [State.dropKind, State.giveLtx, State.setPend, State.setCounters, State.setLport_notices, State.setLtx_notices,
      State.setLtx_lport, State.fire_ltx, State.fire_lport, State.fire_notices_ltx]
    rfl
  · rw [State.attemptFailed_of_recall (s := u) he hi hr]
    rfl
  · rw [State.attemptFailed_of_recall (by rw [ltx]; exact he) hi (by rw [ltx]; exact hr)]
    simp only [State.settleRecall, State.giveLtx, State.setLtx_notices, State.fire_ltx, State.fire_notices_ltx]
    rfl

/-- Settles O21: each expiry by the timer that has run out. -/
theorem transmitterTimers : Obligations.TransmitterTimers := by
  refine ⟨fun s h => ?_, fun s n h hn hi => ?_, fun s n h hn hr => ?_, fun s m ht hr => ?_⟩
  · exact if_pos ((expired_eq_true_iff _).2 h)
  · exact if_pos (s.isolation3PDue_iff.2 ⟨hi, n, h, hn⟩)
  · exact if_pos (s.isolation40PDue_iff.2 ⟨hr, n, h, hn⟩)
  · have due : s.repeatDue = true := by simp [State.repeatDue, expired, ht, hr]
    refine (if_pos due).trans ?_
    rw [State.nextCheck, hr]
    rfl

end Sys2Proof.Machine
end

section
/-! ## The notices of isolation, rejoin and the JOIN check (O37) -/

namespace Sys2Proof.Machine

namespace State

/-- The alarms and the own context do not meet. -/
theorem fire_setOwn (s : State) (c : OwnContext) (k : AlarmKind) : fire k (s.setOwn c) = (fire k s).setOwn c := by
  unfold fire
  by_cases hk : holdsKind s.au.flags k = true
  · rw [if_pos hk, if_pos (by exact hk)]
  · rw [if_neg hk, if_neg (by exact hk)]
    by_cases hm : holdsKind s.au.forceMask k = true
    · rw [if_pos hm, if_pos (by exact hm)]
      rfl
    · rw [if_neg hm, if_neg (by exact hm)]
      rfl

/-- What reads the configuration does not see what CE does to an intent. -/
theorem withdrawalCause_floor (s : State) : s.withdrawalCause.floor = s.floor := by
  simp only [floor, readConfig, withdrawalCause_lport]

theorem fire_floor (s : State) (k : AlarmKind) : (fire k s).floor = s.floor := by
  simp only [floor, readConfig, fire_lport]

/-! ### ISOLATED (R118) -/

variable (s : State)

theorem takeIsolated_of_detached (h : s.attached = false) : s.takeIsolated = s := by simp [takeIsolated, h]

theorem takeIsolated_of_not_member (h : s.attached = true) (hm : s.own.attach ≠ .member) :
    s.takeIsolated = fire .isolated (s.withdrawalCause.setOwn { s.withdrawalCause.own with isolated := true }) := by
  rw [takeIsolated, if_pos h]
  exact if_neg (by simpa using hm)

theorem takeIsolated_of_member (hm : s.own.attach = .member) :
    s.takeIsolated = (fire .isolated (s.withdrawalCause.setOwn
      { s.withdrawalCause.own with isolated := true, committed := s.floor })).request .announce := by
  have attached : s.attached = true := by simp [State.attached, hm]
  have floor (c : OwnContext) : (fire .isolated (s.withdrawalCause.setOwn c)).floor = s.floor :=
    (fire_floor _ _).trans s.withdrawalCause_floor
  rw [takeIsolated, if_pos attached]
  refine (if_pos (by simpa using hm)).trans ?_
  rw [floor, fire_own, ← fire_setOwn]
  rfl

/-! ### The notices at the front of the queue -/

variable {s} {rest : List LtxNotice}

theorem takeLtx_of_cons {n : LtxNotice} (h : s.notices.ltx = n :: rest) :
    s.takeLtx = { s with notices := { s.notices with ltx := rest } } := by
  rw [takeLtx, h]
  rfl

theorem exec_isolatedNotice (h : s.notices.ltx = .isolated :: rest) :
    exec .isolatedNotice s = .next s.takeLtx.takeIsolated.endOfCeEvent := by
  change execIsolatedNotice s = _
  simp only [execIsolatedNotice, h]

theorem exec_isolationEndNotice (h : s.notices.ltx = .isolationEnd :: rest) :
    exec .isolationEndNotice s = .next s.takeLtx.takeIsolationEnd.endOfCeEvent := by
  change execIsolationEndNotice s = _
  simp only [execIsolationEndNotice, h]

theorem exec_rejoinNotice (h : s.notices.ltx = .rejoin :: rest) :
    exec .rejoinNotice s = .next (if s.attached then s.takeLtx.takeRejoin else s.takeLtx).endOfCeEvent := by
  change execRejoinNotice s = _
  simp only [execRejoinNotice, h]

theorem exec_checkPassed (h : s.notices.ltx = .checkPassed :: rest) :
    exec .checkPassed s =
      .next (if s.own.attach = .detached then s.takeLtx.enterListening else s.takeLtx).endOfCeEvent := by
  change execCheckPassed s = _
  simp only [execCheckPassed, h]

end State

/-- Settles O37: the notice that is taken, by the attach state that finds it. -/
theorem attachNotices : Obligations.AttachNotices := by
  rintro s u n rest hn rfl
  rw [← State.takeLtx_of_cons hn]
  refine ⟨?_, ?_, ?_, ?_, fun ha => ⟨?_, ?_, ?_⟩⟩
  · rintro rfl ha w rfl
    rw [State.exec_isolatedNotice hn]
    refine ⟨fun hm => ?_, fun hm => ?_⟩
    · rw [s.takeLtx.takeIsolated_of_not_member ha hm]
      rfl
    · rw [s.takeLtx.takeIsolated_of_member hm]
      rfl
  · rintro rfl ha
    rw [State.exec_isolationEndNotice hn, State.takeIsolationEnd, if_pos (by exact ha)]
    rfl
  · rintro rfl ha
    rw [State.exec_rejoinNotice hn, if_pos ha]
    rfl
  · rintro rfl hd
    rw [State.exec_checkPassed hn, if_pos hd]
    rfl
  · rintro rfl
    rw [State.exec_isolatedNotice hn, s.takeLtx.takeIsolated_of_detached ha]
  · rintro rfl
    rw [State.exec_isolationEndNotice hn, State.takeIsolationEnd, if_neg (by exact Bool.eq_false_iff.1 ha)]
  · rintro rfl
    rw [State.exec_rejoinNotice hn, if_neg (by simp [ha])]

end Sys2Proof.Machine
end

section
/-! ## JOIN, LINE CHECK, STOP CHECK, LEAVE and SET TARGET (O51, O52) -/

namespace Sys2Proof.Machine

namespace State

variable {s : State}

theorem mayCheck_eq_true (hd : s.own.attach = .detached) (hr : s.ltx.check.run = none) (hc : s.lport.config ≠ none) :
    s.mayCheck = true := by
  simp [mayCheck, idleDetached, lineCheckRunning, configured, hd, hr, Option.isSome_iff_ne_none.2 hc]

theorem mayStop_eq_true {r : CheckRun} (hr : s.ltx.check.run = some r) (ho : s.ltx.check.owner = some .host) :
    s.mayStop = true := by
  simp [mayStop, lineCheckRunning, hr, ho]

/-- LINE CHECK taken, for each of its three modes (R179). -/
theorem exec_lineCheck (ps : List Byte) (n : Nat) (ht : s.transactionEnds = true) (hm : s.mayCheck = true)
    (hl : 1 ≤ (portParams ps).length) (hn : byteAt (portParams ps) 0 = n) (h2 : n ≤ 2) :
    exec (.lineCheck ps) s = .next ((s.endTransaction.beginRun (modeOf n) .host).respond .accepted codeLineCheck []) := by
  change execLineCheck ps s = _
  simp only [execLineCheck, hn, hl, hm, h2, decide_true]
  rw [answer_carried _ _ _ ht]

/-- R37: a run that waits, or sends with no attempt in flight, ends at once. -/
theorem stopRun_of_quiet {r : CheckRun} (hr : s.ltx.check.run = some r)
    (h : r.phase = .waiting ∨ (r.phase = .sending ∧ s.ltx.attempt = none)) : s.stopRun = s.endRun := by
  unfold stopRun
  rw [hr]
  rcases h with hp | ⟨hp, ha⟩
  · simp only [hp]
  · simp only [hp, ha]
    rfl

/-- R37: with an attempt in flight the run goes to STOPPING. -/
theorem stopRun_of_flying {r : CheckRun} {a : Attempt} (hr : s.ltx.check.run = some r) (hp : r.phase = .sending)
    (ha : s.ltx.attempt = some a) :
    s.stopRun = s.setLtx { s.ltx with check := { s.ltx.check with run := some { r with phase := .stopping } } } := by
  unfold stopRun
  rw [hr]
  simp only [hp]
  exact if_pos (by simp [ha])

theorem stopRun_of_stopping {r : CheckRun} (hr : s.ltx.check.run = some r) (hp : r.phase = .stopping) : s.stopRun = s := by
  unfold stopRun
  rw [hr]
  simp only [hp]

theorem exec_stopCheck (ht : s.transactionEnds = true) (hm : s.mayStop = true) :
    exec .stopCheck s = .next (s.endTransaction.stopRun.respond .done codeStopCheck []) := by
  change execStopCheck s = _
  simp only [execStopCheck, hm]
  rw [answer_carried _ _ _ ht]

/-- SET TARGET taken (R178): in a configured station that is not LEAVING, with both values in range. -/
theorem exec_setTarget (ps : List Byte) (ht : s.transactionEnds = true) (hc : s.lport.config ≠ none)
    (ha : s.own.attach ≠ .leaving) (hl : 4 ≤ (portParams ps).length) (hx : wordAt (portParams ps) 0 ≤ s.ceiling)
    (h1 : 1 ≤ wordAt (portParams ps) 2) (h2 : wordAt (portParams ps) 2 ≤ 4095) :
    exec (.setTarget ps) s = .next ((s.endTransaction.applyTarget (wordAt (portParams ps) 0)
      (wordAt (portParams ps) 2)).endOfCeEvent.respond .done codeSetTarget []) := by
  have may : s.mayTarget = true := by simp [mayTarget, configured, Option.isSome_iff_ne_none.2 hc, ha]
  change execSetTarget ps s = _
  simp only [execSetTarget, hl, may, hx, h1, h2, decide_true, Bool.and_true]
  rw [answer_carried _ _ _ ht]

/-! ### SET TARGET by the claim it finds (R116) -/

/-- The station with target and minimum step stored. -/
def withTarget (s : State) (target minStep : Nat) : State := s.setOwn { s.own with target := target, minStep := minStep }

variable {target minStep : Nat}

theorem applyTarget_of_above (h : s.own.attach ≠ .member ∨ s.own.committed < target) :
    s.applyTarget target minStep = s.withTarget target minStep :=
  if_neg fun hx => h.elim (fun hm => hm hx.1) (Nat.not_lt.2 hx.2)

theorem applyTarget_of_equal (hm : s.own.attach = .member) (h : target = s.own.committed) :
    s.applyTarget target minStep = (s.withTarget target minStep).withdrawalCause :=
  (if_pos ⟨hm, h.le⟩).trans (if_neg h.not_lt)

theorem applyTarget_of_below (hm : s.own.attach = .member) (h : target < s.own.committed) :
    s.applyTarget target minStep = (s.withTarget target minStep).withdrawalCause.decrease :=
  (if_pos ⟨hm, h.le⟩).trans (if_pos h)

theorem withdrawalCause_target (s : State) : s.withdrawalCause.own.target = s.own.target := by
  unfold withdrawalCause resolveWithdrawn resolve
  (repeat' split) <;> simp

theorem decrease_of_fall (h : max s.own.target s.floor < s.own.committed) :
    s.decrease = (s.setOwn { s.own with committed := max s.own.target s.floor }).request .announce := if_pos h

/-- A claim that stands at the larger of target and floor stays, and nothing is announced. -/
theorem decrease_of_equal (h : max s.own.target s.floor = s.own.committed) : s.decrease = s := by
  unfold decrease
  rw [h]
  exact if_neg (lt_irrefl _)

/-- The withdrawal leaves the larger of the new target and the floor, and the claim, as they were. -/
theorem withTarget_withdrawalCause (s : State) (target minStep : Nat) :
    max (s.withTarget target minStep).withdrawalCause.own.target (s.withTarget target minStep).withdrawalCause.floor =
      max target s.floor ∧ (s.withTarget target minStep).withdrawalCause.own.committed = s.own.committed := by
  rw [withdrawalCause_target, withdrawalCause_floor, withdrawalCause_committed]
  exact ⟨rfl, rfl⟩

theorem applyTarget_of_fall (hm : s.own.attach = .member) (h : max target s.floor < s.own.committed) :
    s.applyTarget target minStep = ((s.withTarget target minStep).withdrawalCause.setOwn
      { (s.withTarget target minStep).withdrawalCause.own with committed := max target s.floor }).request .announce := by
  obtain ⟨lower, claim⟩ := s.withTarget_withdrawalCause target minStep
  rw [applyTarget_of_below hm (lt_of_le_of_lt (le_max_left _ _) h), decrease_of_fall (by rw [lower, claim]; exact h), lower]

theorem applyTarget_of_floor (hm : s.own.attach = .member) (h : target < s.own.committed) (hf : s.floor = s.own.committed) :
    s.applyTarget target minStep = (s.withTarget target minStep).withdrawalCause := by
  obtain ⟨lower, claim⟩ := s.withTarget_withdrawalCause target minStep
  rw [applyTarget_of_below hm h, decrease_of_equal]
  rw [lower, claim, hf]
  exact max_eq_right h.le

end State

/-- Settles O51: a run begins by its mode and owner, and STOP CHECK ends it by its phase. -/
theorem lineCheckRequests : Obligations.LineCheckRequests := by
  refine ⟨fun s ps begin ht hd hr hc hb => ?_, fun s u m p ht hr ho hu => ?_⟩
  · have may := State.mayCheck_eq_true hd hr hc
    have begins (m : CheckMode) (o : CheckOwner) : s.endTransaction.beginRun m o = begin m o := (hb m o).symm
    have checks (n : Nat) (h2 : n ≤ 2) (hl : 1 ≤ (portParams ps).length) (hn : byteAt (portParams ps) 0 = n) :
        exec (.lineCheck ps) s = .next ((begin (modeOf n) .host).respond .accepted 0x19 []) := by
      rw [State.exec_lineCheck ps n ht may hl hn h2, begins]
      rfl
    refine ⟨?_, fun hl => ⟨checks 0 (by decide) hl, checks 1 (by decide) hl, checks 2 (by decide) hl⟩⟩
    change execJoin s = _
    rw [execJoin, may, answer_carried _ _ _ ht, begins]
    rfl
  · subst hu
    rw [State.exec_stopCheck ht (State.mayStop_eq_true hr ho)]
    refine ⟨fun hp => ?_, fun a hp ha => ?_, fun hp => ?_⟩
    · rw [State.stopRun_of_quiet (s := s.endTransaction) hr hp]
      rfl
    · rw [State.stopRun_of_flying (s := s.endTransaction) hr hp ha]
      rfl
    · rw [State.stopRun_of_stopping (s := s.endTransaction) hr hp]
      rfl

/-- Settles O52: LEAVE as one event, and SET TARGET by the claim it finds. -/
theorem leaveAndSetTarget : Obligations.LeaveAndSetTarget := by
  refine ⟨fun s ht ha => ?_, fun s u w ps target minStep ht hc hl hlen htarget hstep hx h1 h2 hu hw => ?_⟩
  · have attached : s.attached = true := by rcases ha with h | h | h <;> simp [State.attached, h]
    change execLeave s = _
    rw [execLeave, attached, answer_carried _ _ _ ht]
    rfl
  · subst hw hu htarget hstep
    rw [State.exec_setTarget ps ht hc hl hlen hx h1 h2]
    refine ⟨fun h => ?_, fun hm h => ?_, fun hm h => ?_, fun hm h hf => ?_⟩
    · rw [State.applyTarget_of_above (s := s.endTransaction) h]
      rfl
    · rw [State.applyTarget_of_equal (s := s.endTransaction) hm h]
      rfl
    · rw [State.applyTarget_of_fall (s := s.endTransaction) hm h]
      rfl
    · rw [State.applyTarget_of_floor (s := s.endTransaction) hm h hf]
      rfl

end Sys2Proof.Machine
end

section
/-! ## The peer table and the intent list as collections (O60)

The table is in ascending station ID, so that a station has one record at most: what `putPeer`, `removePeer` and `findPeer` say of
it, when the reference station stays, and what a reconciled intent list holds. -/

namespace Sys2Proof.Machine

/-! ### The peer table -/

/-- In an ascending table a record that is put takes the place of the one of its station ID. -/
theorem mem_putPeer_iff {p q : Peer} {ps : List Peer} (h : ps.Pairwise (fun a b => a.id < b.id)) :
    q ∈ putPeer p ps ↔ q = p ∨ (q ∈ ps ∧ q.id ≠ p.id) := by
  induction ps with
  | nil => simp [putPeer]
  | cons r rs ih =>
    obtain ⟨hr, hrs⟩ := List.pairwise_cons.1 h
    unfold putPeer
    split
    · rename_i hlt
      have above : ∀ a ∈ r :: rs, a.id ≠ p.id := fun a ha => by
        rcases List.mem_cons.1 ha with rfl | ha
        · omega
        · have := hr a ha
          omega
      rw [List.mem_cons]
      exact or_congr_right ⟨fun hq => ⟨hq, above q hq⟩, And.left⟩
    · split
      · rename_i _ heq
        have above : ∀ a ∈ rs, a.id ≠ p.id := fun a ha => by
          have := hr a ha
          omega
        rw [List.mem_cons, List.mem_cons]
        refine or_congr_right ⟨fun hq => ⟨.inr hq, above q hq⟩, ?_⟩
        rintro ⟨rfl | hq, hne⟩
        · exact absurd heq.symm hne
        · exact hq
      · rename_i _ hne
        rw [List.mem_cons, ih hrs, List.mem_cons]
        constructor
        · rintro (rfl | rfl | ⟨hq, hx⟩)
          · exact .inr ⟨.inl rfl, Ne.symm hne⟩
          · exact .inl rfl
          · exact .inr ⟨.inr hq, hx⟩
        · rintro (rfl | ⟨rfl | hq, hx⟩)
          · exact .inr (.inl rfl)
          · exact .inl rfl
          · exact .inr (.inr ⟨hq, hx⟩)

/-- In an ascending table two records of one station ID are the same. -/
theorem eq_of_id_eq {ps : List Peer} (h : ps.Pairwise (fun a b => a.id < b.id)) {p q : Peer} (hp : p ∈ ps) (hq : q ∈ ps)
    (e : p.id = q.id) : p = q :=
  List.inj_on_of_nodup_map (List.pairwise_map.2 (h.imp Nat.ne_of_lt)) hp hq e

theorem mem_of_findPeer {x : Nat} {p : Peer} {ps : List Peer} (h : findPeer x ps = some p) : p ∈ ps ∧ p.id = x :=
  ⟨List.mem_of_find?_eq_some h, by simpa using List.find?_some h⟩

/-- The record of a sender that is heard is its own, and LIVE (R55). -/
theorem heardPeer_spec (x : Nat) (ps : List Peer) : (heardPeer x ps).id = x ∧ (heardPeer x ps).presence = .live := by
  unfold heardPeer
  split
  · exact ⟨rfl, rfl⟩
  · rename_i p hp
    exact ⟨(mem_of_findPeer hp).2, rfl⟩

/-- The reference station is read off the station IDs and the presence alone (R69). -/
theorem referenceOf_map (own : Nat) (f : Peer → Peer) (ps : List Peer) (sameId : ∀ p, (f p).id = p.id)
    (samePresence : ∀ p, (f p).presence = p.presence) : referenceOf own (ps.map f) = referenceOf own ps := by
  simp only [referenceOf, List.find?_map, Option.map_map, Function.comp_def, Peer.isLive, sameId, samePresence]

/-- Forgetting a LOST record leaves the reference station. -/
theorem referenceOf_removePeer (own x : Nat) (ps : List Peer) (lost : ∀ p ∈ ps, p.id = x → p.isLive = false) :
    referenceOf own (removePeer x ps) = referenceOf own ps := by
  simp only [referenceOf, removePeer, List.find?_filter]
  refine congrArg _ (List.find?_congr fun p hp => ?_)
  by_cases hx : p.id = x
  · simp [lost p hp hx]
  · simp [hx]

/-! ### The intent list -/

theorem removeEntry_of_absent {x : Nat} {es : List Entry} (h : findEntry x es = none) : removeEntry x es = es := by
  simpa [findEntry, removeEntry] using h

/-- R79: the sender's entry leaves the list, stays as it is, or stands at its end, new. -/
theorem reconcile_cases (x : Nat) (o : Option (Nat × Nat)) (es : List Entry) :
    reconcile x o es = removeEntry x es ∨ reconcile x o es = es ∨
      ∃ n d, reconcile x o es = removeEntry x es ++ [peerEntry x n d .learned] := by
  unfold reconcile
  split
  · exact .inl rfl
  · rename_i n d
    split
    · rename_i absent
      exact .inr (.inr ⟨n, d, by rw [removeEntry_of_absent absent]⟩)
    · split
      · exact .inr (.inl rfl)
      · exact .inr (.inr ⟨n, d, rfl⟩)

theorem removeOwnEntry_own (es : List Entry) : ¬ ∃ e ∈ removeOwnEntry es, e.own = true := by
  simp [removeOwnEntry]

end Sys2Proof.Machine
end

section
/-! ## What the shared operations do to the view (O60)

`ViewSound` speaks of the queued records, the view, the attach state, the intent state and the configured station ID:
`State.viewPart`. What leaves these alone keeps it (`ViewSound.frame`). A change of the table is followed by the recomputing of the
reference station, so that the lemmas about the table speak of the state after it (`ViewSound.setTable`). -/

namespace Sys2Proof.Machine

namespace State

/-- What `ViewSound` speaks of. -/
def viewPart (s : State) : List QueueRecord × View × AttachState × IntentState × Option ConfigRecord :=
  (s.rsq.records, s.view, s.own.attach, s.own.intentState, s.lport.config)

end State

/-- What `ViewSound` asks of one record of the table in a station of this ID (R52, R53, R60). -/
def Peer.Sound (own : Nat) (p : Peer) : Prop :=
  (1 ≤ p.id ∧ p.id ≤ 31 ∧ p.id ≠ own) ∧ (p.presence = .lost → p.refreshed = false)

/-- An intent other than IDLE stands in JOINING and MEMBER only. -/
def OwnContext.IntentPlaced (c : OwnContext) : Prop := c.intentState ≠ .idle → c.attach = .joining ∨ c.attach = .member

namespace ViewSound

variable {s t : State}

/-- What leaves the records, the view, attach and intent state and the configuration alone. -/
theorem frame (h : ViewSound s) (same : t.viewPart = s.viewPart := by simp [State.viewPart]) : ViewSound t := by
  simp only [State.viewPart, Prod.mk.injEq] at same
  obtain ⟨records, view, attach, intentState, config⟩ := same
  have ownId : t.ownId = s.ownId := by simp only [State.ownId, State.readConfig, config]
  exact
    { senders := records ▸ h.senders
      ascending := view ▸ h.ascending
      peerIds := by rw [view, ownId]; exact h.peerIds
      lostUnrefreshed := view ▸ h.lostUnrefreshed
      oneEntry := view ▸ h.oneEntry
      peerEntries := view ▸ h.peerEntries
      ownEntries := by rw [view, ownId]; exact h.ownEntries
      ownEntry := by rw [view, intentState]; exact h.ownEntry
      detached := by rw [attach, view]; exact h.detached
      reference := by rw [view, ownId]; exact h.reference
      idle := by rw [intentState, attach]; exact h.idle }

theorem ite {p : Prop} [Decidable p] {s t : State} (ht : ViewSound t) (hs : ViewSound s) :
    ViewSound (if p then t else s) := by
  split
  · exact ht
  · exact hs

/-- A station that knows of nobody and has no intent. -/
theorem of_nothing_known (senders : ∀ r ∈ s.rsq.records, r.senderOk) (peers : s.view.peers = [])
    (intents : s.view.intents = []) (reference : s.view.reference = none) (idle : s.own.intentState = .idle) :
    ViewSound s where
  senders := senders
  ascending := by simp [peers]
  peerIds := by simp [peers]
  lostUnrefreshed := by simp [peers]
  oneEntry := by simp [intents]
  peerEntries := by simp [intents]
  ownEntries := by simp [intents]
  ownEntry := by simp [intents, idle]
  detached := fun _ => ⟨peers, intents⟩
  reference := by simp [reference, peers, referenceOf]
  idle := fun hi => absurd idle hi

/-! ### The Receive Status Queue -/

theorem setRecords (h : ViewSound s) (q : Rsq) (senders : ∀ r ∈ q.records, r.senderOk) : ViewSound (s.setRsq q) :=
  { h with senders }

theorem handRecord (h : ViewSound s) (r : FrameRecord) (hr : (QueueRecord.frame r).senderOk) : ViewSound (s.handRecord r) := by
  have appended : ∀ x ∈ s.rsq.records ++ [.frame r], x.senderOk := fun x hx => by
    rcases List.mem_append.1 hx with hx | hx
    · exact h.senders x hx
    · obtain rfl := List.mem_singleton.1 hx
      exact hr
  unfold State.handRecord
  refine ite h (ite { h with senders := appended } ?_)
  exact h.frame (by simp [State.viewPart, State.overrun, State.setCounters])

/-- A LOSS record, placed or merged, names no sender. -/
theorem dropHead (h : ViewSound s) : ViewSound s.dropHead := by
  refine h.setRecords _ ?_
  have records := h.senders
  unfold Rsq.removeHead
  split
  · exact records
  · rename_i r rest hq
    have left : ∀ r ∈ rest, r.senderOk := fun x hx => records x (by simp [hq, hx])
    have placed (front : List QueueRecord) (n : Nat) (hf : ∀ r ∈ front, r.senderOk) :
        ∀ r ∈ front ++ [.loss n], r.senderOk := fun x hx => by
      rcases List.mem_append.1 hx with hx | hx
      · exact hf x hx
      · obtain rfl := List.mem_singleton.1 hx
        trivial
    split
    · exact left
    · split
      · exact placed _ _ fun x hx => left x (List.mem_of_mem_dropLast hx)
      all_goals exact placed _ _ left

/-! ### The peer table -/

/-- Another table in ascending order, of sound records, with a LIVE one for every peer's entry. -/
theorem setTable (h : ViewSound s) (ps : List Peer) (ascending : ps.Pairwise (fun p q => p.id < q.id))
    (sound : ∀ p ∈ ps, p.Sound s.ownId)
    (entries : ∀ e ∈ s.view.intents, e.own = false → ∃ p ∈ ps, p.id = e.station ∧ p.presence = .live)
    (detached : s.own.attach = .detached → ps = []) : ViewSound (s.setPeers ps).recomputeReference :=
  { h with
    ascending
    peerIds := fun p hp => (sound p hp).1
    lostUnrefreshed := fun p hp => (sound p hp).2
    peerEntries := entries
    detached := fun hd => ⟨detached hd, (h.detached hd).2⟩
    reference := rfl }

theorem sound (h : ViewSound s) {p : Peer} (hp : p ∈ s.view.peers) : p.Sound s.ownId :=
  ⟨h.peerIds p hp, h.lostUnrefreshed p hp⟩

/-- A table that names the same reference station need not be followed by recomputing it. -/
theorem recomputeReference_eq (h : ViewSound s) {ps : List Peer}
    (same : referenceOf s.ownId ps = referenceOf s.ownId s.view.peers) :
    (s.setPeers ps).recomputeReference = s.setPeers ps := by
  change (s.setPeers ps).setView { s.view with peers := ps, reference := referenceOf s.ownId ps } = _
  rw [same, ← h.reference]
  rfl

/-- A change of the records that leaves station IDs and presence alone and refreshes none. -/
theorem mapPeers (h : ViewSound s) (f : Peer → Peer) (sameId : ∀ p, (f p).id = p.id)
    (samePresence : ∀ p, (f p).presence = p.presence)
    (refreshed : ∀ p, p.refreshed = false → (f p).refreshed = false) : ViewSound (s.setPeers (s.view.peers.map f)) := by
  rw [← h.recomputeReference_eq (referenceOf_map _ f _ sameId samePresence)]
  refine h.setTable _ ?_ (fun q hq => ?_) (fun e he hp => ?_) fun hd => by rw [(h.detached hd).1, List.map_nil]
  · simpa only [List.pairwise_map, sameId] using h.ascending
  · obtain ⟨p, hp, rfl⟩ := List.mem_map.1 hq
    obtain ⟨ids, lost⟩ := h.sound hp
    exact ⟨by rw [sameId]; exact ids, fun hl => refreshed p (lost (by rw [← samePresence]; exact hl))⟩
  · obtain ⟨p, hp, hid, hlive⟩ := h.peerEntries e he hp
    exact ⟨f p, List.mem_map_of_mem hp, (sameId p).trans hid, (samePresence p).trans hlive⟩

theorem unrefresh (h : ViewSound s) : ViewSound s.unrefresh := by
  refine h.mapPeers _ (fun p => ?_) (fun p => ?_) fun p hp => ?_
  · split <;> rfl
  · split <;> rfl
  · split
    · rfl
    · exact hp

theorem unrefreshIf (h : ViewSound s) (mm : Bool) : ViewSound (s.unrefreshIf mm) := ite h.unrefresh h

/-- A record put into the table, LIVE unless its station has no entry. -/
theorem putPeer (h : ViewSound s) (ha : s.own.attach ≠ .detached) (p : Peer) (sound : p.Sound s.ownId)
    (live : p.presence = .live ∨ ∀ e ∈ s.view.intents, e.own = false → e.station ≠ p.id) :
    ViewSound (s.setPeers (putPeer p s.view.peers)).recomputeReference := by
  have mem (q : Peer) := mem_putPeer_iff (p := p) (q := q) h.ascending
  refine h.setTable _ (putPeer_ascending p _ h.ascending).1 (fun q hq => ?_) (fun e he hpeer => ?_) fun hd => absurd hd ha
  · rcases (mem q).1 hq with rfl | ⟨hq, -⟩
    · exact sound
    · exact h.sound hq
  · obtain ⟨q, hq, hid, hlive⟩ := h.peerEntries e he hpeer
    by_cases hx : q.id = p.id
    · refine ⟨p, (mem p).2 (.inl rfl), hx.symm.trans hid, live.resolve_right fun none => ?_⟩
      exact none e he hpeer (hid.symm.trans hx)
    · exact ⟨q, (mem q).2 (.inr ⟨hq, hx⟩), hid, hlive⟩

/-- A record taken out of the table, of a station without an entry. -/
theorem removePeer (h : ViewSound s) (x : Nat) (free : ∀ e ∈ s.view.intents, e.own = false → e.station ≠ x) :
    ViewSound (s.setPeers (removePeer x s.view.peers)).recomputeReference := by
  refine h.setTable _ (h.ascending.filter _) (fun p hp => h.sound ((mem_removePeer ..).1 hp).1) (fun e he hpeer => ?_)
    fun hd => by rw [(h.detached hd).1]; rfl
  obtain ⟨p, hp, hid, hlive⟩ := h.peerEntries e he hpeer
  exact ⟨p, (mem_removePeer ..).2 ⟨hp, hid.trans_ne (free e he hpeer)⟩, hid, hlive⟩

/-! ### The intent list -/

/-- Another list with one entry a station, a LIVE record for every peer's entry, and the own entries as they were. -/
theorem setIntents (h : ViewSound s) (es : List Entry) (one : es.Pairwise (fun a b => a.station ≠ b.station))
    (entries : ∀ e ∈ es, e.own = false → ∃ p ∈ s.view.peers, p.id = e.station ∧ p.presence = .live)
    (own : ∀ e, e.own = true → (e ∈ es ↔ e ∈ s.view.intents)) (detached : s.own.attach = .detached → es = []) :
    ViewSound (s.setIntents es) :=
  { h with
    oneEntry := one
    peerEntries := entries
    ownEntries := fun e he ho => h.ownEntries e ((own e ho).1 he) ho
    ownEntry := (exists_congr fun e => and_congr_left fun ho => own e ho).trans h.ownEntry
    detached := fun hd => ⟨(h.detached hd).1, detached hd⟩ }

/-- The entry of a peer leaves the list: the own entry is of another station. -/
theorem removeEntry (h : ViewSound s) {x : Nat} (hx : x ≠ s.ownId) :
    ViewSound (s.setIntents (removeEntry x s.view.intents)) := by
  refine h.setIntents _ (h.oneEntry.filter _) (fun e he => h.peerEntries e ((mem_removeEntry ..).1 he).1) (fun e ho => ?_)
    fun hd => by rw [(h.detached hd).2]; rfl
  rw [mem_removeEntry]
  exact and_iff_left_of_imp fun he => (h.ownEntries e he ho).trans_ne hx.symm

/-- A LIVE peer has a new entry at the end of the list (R76, R79). -/
theorem replaceEntry (h : ViewSound s) {x : Nat} (hx : x ≠ s.ownId) (live : ∃ p ∈ s.view.peers, p.id = x ∧ p.presence = .live)
    (n d : Nat) (o : Origin) : ViewSound (s.setIntents (Machine.removeEntry x s.view.intents ++ [peerEntry x n d o])) := by
  have removed := h.removeEntry hx
  refine removed.setIntents _ ?_ (fun e he hp => ?_) (fun e ho => ?_) fun hd => ?_
  · refine List.pairwise_append.2 ⟨removed.oneEntry, List.pairwise_singleton .., fun a ha b hb => ?_⟩
    obtain rfl := List.mem_singleton.1 hb
    exact ((mem_removeEntry ..).1 ha).2
  · rcases List.mem_append.1 he with he | he
    · exact removed.peerEntries e he hp
    · obtain rfl := List.mem_singleton.1 he
      exact live
  · rw [List.mem_append, List.mem_singleton]
    refine or_iff_left ?_
    rintro rfl
    cases ho
  · obtain ⟨p, hp, -⟩ := live
    rw [(h.detached hd).1] at hp
    cases hp

theorem reconcile (h : ViewSound s) {x : Nat} (hx : x ≠ s.ownId) (live : ∃ p ∈ s.view.peers, p.id = x ∧ p.presence = .live)
    (o : Option (Nat × Nat)) : ViewSound (s.setIntents (reconcile x o s.view.intents)) := by
  rcases reconcile_cases x o s.view.intents with e | e | ⟨n, d, e⟩ <;> rw [e]
  · exact h.removeEntry hx
  · exact h
  · exact h.replaceEntry hx live ..

/-! ### The own context -/

/-- A change of the own context that neither begins nor ends the window, and does not detach the station. -/
theorem setOwn (h : ViewSound s) (c : OwnContext) (window : c.intentState = .window ↔ s.own.intentState = .window)
    (placed : c.IntentPlaced) (detached : c.attach = .detached → s.own.attach = .detached) : ViewSound (s.setOwn c) :=
  { h with
    ownEntry := h.ownEntry.trans window.symm
    detached := fun hd => h.detached (detached hd)
    idle := placed }

/-- A change of the own context that leaves attach and intent state alone. -/
theorem setFields (h : ViewSound s) (c : OwnContext) (attach : c.attach = s.own.attach := by rfl)
    (intentState : c.intentState = s.own.intentState := by rfl) : ViewSound (s.setOwn c) :=
  h.setOwn c (by rw [intentState]) (by rw [OwnContext.IntentPlaced, attach, intentState]; exact h.idle) (by rw [attach]; exact id)

/-- The window ends, or has not been: the list then holds no own entry. -/
theorem dropOwnEntry (h : ViewSound s) (c : OwnContext) (window : c.intentState ≠ .window) (placed : c.IntentPlaced)
    (detached : c.attach = .detached → s.own.attach = .detached) :
    ViewSound ((s.setIntents (removeOwnEntry s.view.intents)).setOwn c) :=
  { h with
    oneEntry := h.oneEntry.filter _
    peerEntries := fun e he => h.peerEntries e ((mem_removeOwnEntry ..).1 he).1
    ownEntries := fun e he => h.ownEntries e ((mem_removeOwnEntry ..).1 he).1
    ownEntry := iff_of_false (removeOwnEntry_own _) window
    detached := fun hd => by
      obtain ⟨peers, intents⟩ := h.detached (detached hd)
      exact ⟨peers, (congrArg removeOwnEntry intents :)⟩
    idle := placed }

end ViewSound

end Sys2Proof.Machine
end

section
/-! ## What the Claim Engine does to its view (O60)

The own entry stands in the list exactly in the window: the readback appends it, every resolution and the silent removal take it
out. A record of a peer first brings the peer's record into the table, LIVE, and then changes the peer's entry. -/

namespace Sys2Proof.Machine

theorem State.openingHolds_spec (s : State) (h : s.openingHolds = true) :
    s.own.intentState = .idle ∧ (s.own.attach = .joining ∨ s.own.attach = .member) := by
  simp only [State.openingHolds, Bool.and_eq_true, beq_iff_eq] at h
  obtain ⟨⟨⟨⟨⟨idle, wants⟩, -⟩, -⟩, -⟩, -⟩ := h
  refine ⟨idle, ?_⟩
  unfold State.wantsMore at wants
  split at wants
  · rename_i hj; exact .inl hj
  · rename_i hm; exact .inr hm
  all_goals cases wants

namespace ViewSound

variable {s : State}

/-! ### The shared operations -/

theorem request (h : ViewSound s) (k : FrameKind) : ViewSound (s.request k) := h.frame

theorem requestIntent (h : ViewSound s) : ViewSound s.requestIntent := h.frame

theorem setLtx (h : ViewSound s) (l : Ltx) : ViewSound (s.setLtx l) := h.frame

theorem fire (h : ViewSound s) (k : AlarmKind) : ViewSound (s.fire k) := h.frame

theorem settle (h : ViewSound s) : ViewSound s.settle := h.frame

theorem setCommitted (h : ViewSound s) (n : Nat) : ViewSound (s.setOwn { s.own with committed := n }) := h.setFields _

/-! ### Opening and resolving an intent -/

theorem openingTest (h : ViewSound s) : ViewSound s.openingTest := by
  unfold State.openingTest
  split
  · rename_i ho
    obtain ⟨idle, attach⟩ := s.openingHolds_spec ho
    refine ViewSound.requestIntent (s := s.setOwn _) ?_
    exact h.setOwn _ (by simp [idle]) (fun _ => attach) id
  · exact h

theorem endOfCeEvent (h : ViewSound s) : ViewSound s.endOfCeEvent := h.openingTest.settle

/-- A resolution takes the own entry out of the list, if it is there. -/
theorem resolve (h : ViewSound s) (hi : s.own.intentState = .opening ∨ s.own.intentState = .window) (o : IntentOutcome)
    (granted : Nat) (m : Option MarginClass) : ViewSound (s.resolve o granted m) := by
  have notIdle : s.own.intentState ≠ .idle := by rcases hi with hi | hi <;> simp [hi]
  refine ViewSound.request (s := (s.setIntents _).setOwn _) ?_ .settle
  exact h.dropOwnEntry _ (by simp) (fun _ => h.idle notIdle) id

theorem withdrawalCause (h : ViewSound s) : ViewSound s.withdrawalCause := by
  unfold State.withdrawalCause
  split
  · exact h
  · exact h
  · exact h
  · exact ite h (ViewSound.frame (s := s.setOwn _) (h.setFields { s.own with withdrawMark := true }))
  · rename_i hi
    exact h.resolve (.inr hi) ..

theorem decrease (h : ViewSound s) : ViewSound s.decrease := ite ((h.setCommitted _).request .announce) (h.setCommitted _)

theorem settleToTarget (h : ViewSound s) : ViewSound s.settleToTarget := ite h.decrease h

theorem becomeMember (h : ViewSound s) : ViewSound s.becomeMember :=
  ite (h.setOwn _ .rfl (fun _ => .inr rfl) fun hd => nomatch hd) h

/-- The decision at the end of the hold window. -/
theorem decideIntent (h : ViewSound s) (hi : s.own.intentState = .window) : ViewSound s.decideIntent := by
  have resolved := h.resolve (.inr hi)
  exact ite (resolved ..) (ite (resolved ..) (ite (resolved ..) (resolved ..).becomeMember.settleToTarget))

/-! ### The ends of OPENING and SETTLING -/

/-- The readback: no own entry stands in OPENING, and no peer has the own station ID. -/
theorem takeReadback (h : ViewSound s) (hi : s.own.intentState = .opening) : ViewSound s.takeReadback := by
  unfold State.takeReadback
  split
  · exact h.resolve (.inl hi) ..
  · have placed : s.own.attach = .joining ∨ s.own.attach = .member := h.idle (by simp [hi])
    have peer : ∀ e ∈ s.view.intents, e.own = false := fun e he => by
      by_contra ho
      have window := h.ownEntry.1 ⟨e, he, by simpa using ho⟩
      rw [hi] at window
      cases window
    have station : ∀ e ∈ s.view.intents, e.station ≠ s.ownId := fun e he => by
      obtain ⟨p, hp, hid, -⟩ := h.peerEntries e he (peer e he)
      rw [← hid]
      exact (h.peerIds p hp).2.2
    exact
      { h with
        oneEntry := List.pairwise_append.2 ⟨h.oneEntry, List.pairwise_singleton .., fun a ha b hb => by
          rw [List.mem_singleton.1 hb]
          exact station a ha⟩
        peerEntries := fun e he hp => by
          rcases List.mem_append.1 he with he | he
          · exact h.peerEntries e he hp
          · rw [List.mem_singleton.1 he] at hp
            cases hp
        ownEntries := fun e he ho => by
          rcases List.mem_append.1 he with he | he
          · exact h.ownEntries e he ho
          · rw [List.mem_singleton.1 he]
            rfl
        ownEntry := iff_of_true ⟨_, List.mem_append.2 (.inr (List.mem_singleton.2 rfl)), rfl⟩ rfl
        detached := fun hd => by rcases placed with ha | ha <;> exact absurd (ha.symm.trans hd) (by decide)
        idle := fun _ => placed }

theorem openingDoubt (h : ViewSound s) : ViewSound s.openingDoubt := by
  unfold State.openingDoubt
  split
  · rename_i hi
    exact ite (h.resolve (.inl hi) ..) (h.setFields _)
  · exact h

theorem openingSent (h : ViewSound s) (hi : s.own.intentState = .opening) : ViewSound s.openingSent :=
  ite (h.resolve (.inl hi) ..) (h.setFields _)

theorem endOpening (h : ViewSound s) (hi : s.own.intentState = .opening) : ViewSound s.endOpening :=
  h.setOwn _ (by simp [hi]) (fun _ => h.idle (by simp [hi])) id

theorem endSettling (h : ViewSound s) (hi : s.own.intentState = .settling) : ViewSound s.endSettling := by
  refine ite (h.setOwn _ (by simp [hi]) (fun hn => absurd rfl hn) id) (h.setOwn _ (by simp [hi]) (fun _ => ?_) id)
  exact h.idle (by simp [hi])

/-! ### Leaving, rejoining and attaching -/

theorem removeIntent (h : ViewSound s) : ViewSound s.removeIntent :=
  h.dropOwnEntry _ (by simp) (fun hn => absurd rfl hn) id

theorem takeLeaveRequest (h : ViewSound s) : ViewSound s.takeLeaveRequest := by
  refine ViewSound.setLtx (s := s.removeIntent.setOwn _) ?_ _
  exact h.removeIntent.setOwn _ .rfl (fun hn => absurd rfl hn) fun hd => nomatch hd

theorem takeRejoin (h : ViewSound s) : ViewSound s.takeRejoin := by
  have listening : ViewSound (s.removeIntent.setOwn { s.removeIntent.own with
      committed := 0, isolated := false, attach := .listening, listen := some (6 * s.period) }) :=
    h.removeIntent.setOwn _ .rfl (fun hn => absurd rfl hn) fun hd => nomatch hd
  exact (listening.mapPeers (fun p => { p with refreshed := false }) (fun _ => rfl) (fun _ => rfl) fun _ _ => rfl).frame rfl

theorem completeLeave (s : State) : ViewSound s.completeLeave :=
  of_nothing_known (fun _ hr => nomatch hr) rfl rfl rfl rfl

theorem inFullReset (pins : Pins) (profile n : Nat) (q : List Instr) : ViewSound (.inFullReset pins profile n q) :=
  of_nothing_known (fun _ hr => nomatch hr) rfl rfl rfl rfl

/-- In DETACHED neither a record, an entry nor an intent is there, so that the station ID may change. -/
theorem of_detached {t : State} (h : ViewSound s) (hd : s.own.attach = .detached) (records : t.rsq = s.rsq)
    (view : t.view = s.view) (intentState : t.own.intentState = s.own.intentState) : ViewSound t := by
  obtain ⟨peers, intents⟩ := h.detached hd
  have idle : s.own.intentState = .idle := by
    by_contra hn
    rcases h.idle hn with ha | ha <;> exact absurd (ha.symm.trans hd) (by decide)
  refine of_nothing_known (records ▸ h.senders) (view ▸ peers) (view ▸ intents) ?_ (intentState.trans idle)
  rw [view, h.reference, peers]
  rfl

theorem enterListening (h : ViewSound s) (hd : s.own.attach = .detached) : ViewSound s.enterListening := by
  have idle : s.own.intentState ≠ .window := fun hw => by
    rcases h.idle (by simp [hw]) with ha | ha <;> exact absurd (ha.symm.trans hd) (by decide)
  refine ViewSound.setLtx (s := s.setOwn _) ?_ _
  exact h.setOwn _ (by simp [idle]) (fun hn => absurd rfl hn) fun _ => hd

theorem takeSent (h : ViewSound s) (k : FrameKind) : ViewSound (s.takeSent k) := by
  unfold State.takeSent
  split
  · split
    · rename_i hi
      exact h.openingSent (by simpa using (Bool.and_eq_true_iff.1 hi).2)
    · exact h
  · split
    · rename_i hi
      exact h.endSettling (by simpa using (Bool.and_eq_true_iff.1 hi).2)
    · exact h
  · exact ite (completeLeave s) h
  all_goals exact h

theorem takeRecalled (h : ViewSound s) : ViewSound s.takeRecalled := by
  unfold State.takeRecalled
  split
  · rename_i hi
    exact h.endOpening (by simpa using (Bool.and_eq_true_iff.1 hi).2)
  · exact h

theorem takeDropped (h : ViewSound s) (k : FrameKind) : ViewSound (s.takeDropped k) := by
  cases k with
  | intent => exact h.takeRecalled
  | settle => exact h.takeSent .settle
  | leave => exact h.takeSent .leave
  | announce => exact h
  | check => exact h

theorem takeIsolated (h : ViewSound s) : ViewSound s.takeIsolated := by
  have flagged := (h.withdrawalCause.setFields { s.withdrawalCause.own with isolated := true }).fire .isolated
  exact ite (ite ((flagged.setCommitted _).request .announce) flagged) h

theorem takeIsolationEnd (h : ViewSound s) : ViewSound s.takeIsolationEnd := ite (h.setFields _) h

/-! ### The change of profile and SET TARGET -/

theorem proportionalShed (h : ViewSound s) (b : Nat) : ViewSound (s.proportionalShed b) := by
  have announced := (h.setCommitted (s.shedClaim b)).request .announce
  exact ite (ite (ite announced.withdrawalCause announced) (h.setCommitted _)) h

theorem withdrawWindow (h : ViewSound s) : ViewSound s.withdrawWindow := by
  unfold State.withdrawWindow
  split
  · rename_i hi
    exact h.resolve (.inr hi) ..
  · exact h

theorem applyProfileChange (h : ViewSound s) (b : Nat) : ViewSound (s.applyProfileChange b) := by
  have shed := h.unrefresh.withdrawWindow.proportionalShed b
  exact ite (shed.fire .budgetDeficit) shed

theorem applyTarget (h : ViewSound s) (target minStep : Nat) : ViewSound (s.applyTarget target minStep) := by
  have set := h.setFields { s.own with target := target, minStep := minStep }
  exact ite (ite set.withdrawalCause.decrease set.withdrawalCause) set

/-! ### Records of peers

Each of them is a sound record's: `x` is a station ID other than the own one, and CE takes no record in DETACHED. -/

/-- R54 steps 2 to 4: the record of the sender stands in the table, LIVE. -/
theorem updatePeer (h : ViewSound s) (ha : s.own.attach ≠ .detached) {x : Nat} (hx : 1 ≤ x ∧ x ≤ 31 ∧ x ≠ s.ownId)
    (apply : Peer → Peer) (sameId : ∀ p, (apply p).id = p.id) (samePresence : ∀ p, (apply p).presence = p.presence) :
    ViewSound (s.updatePeer x apply).recomputeReference ∧
      ∃ p ∈ (s.updatePeer x apply).view.peers, p.id = x ∧ p.presence = .live := by
  obtain ⟨heardId, heardLive⟩ := heardPeer_spec x s.view.peers
  have live := (samePresence _).trans heardLive
  have here := (sameId _).trans heardId
  refine ⟨h.putPeer ha _ ⟨by rw [here]; exact hx, fun hl => ?_⟩ (.inl live),
    _, (mem_putPeer_iff h.ascending).2 (.inl rfl), here, live⟩
  rw [live] at hl
  cases hl

/-- R54 steps 1 to 4, for a record with or without COUNT_MISMATCH. -/
theorem heard (h : ViewSound s) (ha : s.own.attach ≠ .detached) {x : Nat} (hx : 1 ≤ x ∧ x ≤ 31 ∧ x ≠ s.ownId) (mm : Bool)
    (apply : Peer → Peer) (sameId : ∀ p, (apply p).id = p.id) (samePresence : ∀ p, (apply p).presence = p.presence) :
    ViewSound ((s.unrefreshIf mm).updatePeer x apply).recomputeReference ∧
      x ≠ ((s.unrefreshIf mm).updatePeer x apply).recomputeReference.ownId ∧
      ∃ p ∈ ((s.unrefreshIf mm).updatePeer x apply).view.peers, p.id = x ∧ p.presence = .live := by
  have own : (s.unrefreshIf mm).ownId = s.ownId := by simp [State.ownId, State.readConfig]
  obtain ⟨sound, live⟩ := (h.unrefreshIf mm).updatePeer (by simpa using ha) (by rwa [own]) apply sameId samePresence
  exact ⟨sound, hx.2.2.trans_eq own.symm, live⟩

theorem peerAnnounce (h : ViewSound s) (ha : s.own.attach ≠ .detached) {x : Nat} (hx : 1 ≤ x ∧ x ≤ 31 ∧ x ≠ s.ownId) (mm : Bool)
    (f : AnnounceFields) : ViewSound (s.peerAnnounce x mm f) := by
  obtain ⟨heard, other, live⟩ := h.heard ha hx mm (s.applyAnnounce f) (fun _ => rfl) fun _ => rfl
  refine (heard.reconcile other live f.openIntent).frame ?_
  simp [State.viewPart, State.peerAnnounce, State.recomputeReference, State.setIntents, State.ownId, State.readConfig]

theorem peerIntent (h : ViewSound s) (ha : s.own.attach ≠ .detached) {x : Nat} (hx : 1 ≤ x ∧ x ≤ 31 ∧ x ≠ s.ownId) (mm : Bool)
    (f : IntentFields) : ViewSound (s.peerIntent x mm f) := by
  obtain ⟨heard, other, live⟩ := h.heard ha hx mm (fun p => { p with committed := f.committedBefore }) (fun _ => rfl) fun _ => rfl
  exact heard.replaceEntry other live f.number f.delta .intent

theorem peerSettle (h : ViewSound s) (ha : s.own.attach ≠ .detached) {x : Nat} (hx : 1 ≤ x ∧ x ≤ 31 ∧ x ≠ s.ownId) (mm : Bool)
    (f : SettleFields) : ViewSound (s.peerSettle x mm f) := by
  obtain ⟨heard, other, -⟩ := h.heard ha hx mm (fun p => { p with committed := f.committedAfter }) (fun _ => rfl) fun _ => rfl
  unfold State.peerSettle
  dsimp only
  split
  · exact { heard.removeEntry other with }
  · exact { heard with }

theorem peerLeave (h : ViewSound s) {x : Nat} (hx : x ≠ s.ownId) (mm : Bool) : ViewSound (s.peerLeave x mm) := by
  have own : (s.unrefreshIf mm).ownId = s.ownId := by simp [State.ownId, State.readConfig]
  have removed := (h.unrefreshIf mm).removeEntry (hx.trans_eq own.symm)
  exact removed.removePeer x fun e he _ => ((mem_removeEntry ..).1 he).2

theorem confirm (h : ViewSound s) (mm : Bool) : ViewSound (s.confirm mm) := ite (h.setFields _) h

/-! ### The other records, and the ageing of the table -/

theorem ownGood (h : ViewSound s) (mm : Bool) (d : Decoded) : ViewSound (s.ownGood mm d) := by
  have unrefreshed := h.unrefreshIf mm
  unfold State.ownGood
  dsimp only
  split
  · split
    · rename_i hi
      exact unrefreshed.takeReadback hi.1
    · exact unrefreshed
  all_goals exact unrefreshed

theorem ownRecord (h : ViewSound s) (c : Content) : ViewSound (s.ownRecord c) := by
  have doubted := h.unrefresh.openingDoubt
  unfold State.ownRecord
  split
  · exact h
  · split
    · exact h.ownGood ..
    · exact h.openingDoubt
    all_goals exact doubted

theorem duplicateRecord (h : ViewSound s) (mm : Bool) : ViewSound (s.duplicateRecord mm) :=
  { (h.unrefreshIf mm).fire .duplicateId with }

theorem errorRecord (h : ViewSound s) (fragment : Bool) : ViewSound (s.errorRecord fragment) := ite h h.unrefresh

/-- R60: the entry of the station leaves the list with the loss of its record. -/
theorem loseRecord (h : ViewSound s) {p : Peer} (hp : p ∈ s.view.peers) : ViewSound (s.loseRecord p) := by
  have ids := h.peerIds p hp
  have removed := h.removeEntry ids.2.2
  refine removed.putPeer (fun hd => ?_) { p with presence := .lost, refreshed := false } ⟨ids, fun _ => rfl⟩
    (.inr fun e he _ => ((mem_removeEntry ..).1 he).2)
  rw [(h.detached hd).1] at hp
  cases hp

/-- R61: a LOST record has no entry, and is not the reference. -/
theorem forgetRecord (h : ViewSound s) {p : Peer} (hp : p ∈ s.view.peers) (hl : p.isLive = false) :
    ViewSound (s.forgetRecord p.id) := by
  have lost : ∀ q ∈ s.view.peers, q.id = p.id → q.isLive = false := fun q hq e => by
    rw [eq_of_id_eq h.ascending hq hp e]
    exact hl
  have forgotten := h.removePeer p.id fun e he hpeer hs => by
    obtain ⟨q, hq, hid, hlive⟩ := h.peerEntries e he hpeer
    have := lost q hq (hid.trans hs)
    rw [Peer.isLive, hlive] at this
    cases this
  rwa [h.recomputeReference_eq (referenceOf_removePeer _ _ _ lost)] at forgotten

theorem tick (h : ViewSound s) : ViewSound s.tick := by
  have aged := h.mapPeers (Peer.age (50 * s.period)) (fun _ => rfl) (fun _ => rfl) fun _ hp => hp
  exact ite h { aged with }

end ViewSound

end Sys2Proof.Machine
end

section
/-! ## What the other units leave of the view, and what a record brings to it (O60) -/

namespace Sys2Proof.Machine

/-! ### What leaves the view alone -/

namespace State

variable {s t : State}

theorem frameStart_viewPart (h : s.frameStart = some t) : t.viewPart = s.viewPart :=
  (congrArg viewPart (s.frameStart_frame t h).1 :)

theorem handOff_viewPart (s : State) (c : Classified) (bs : List Byte) : (s.handOff c bs).viewPart = s.viewPart := by
  unfold handOff alignAnnounce
  (repeat' split) <;> rfl

theorem loseArbitration_viewPart (s : State) (k : FrameKind) : (s.loseArbitration k).viewPart = s.viewPart := by
  unfold loseArbitration
  dsimp only
  split <;> simp [viewPart, setCounters, releaseSdl]

theorem meetFault_viewPart (s : State) (k : FrameKind) : (s.meetFault k).viewPart = s.viewPart := by
  unfold meetFault
  dsimp only
  split <;> simp [viewPart, setCounters, releaseSdl]

theorem stopRun_viewPart (s : State) : s.stopRun.viewPart = s.viewPart := by
  unfold stopRun
  (repeat' split) <;> rfl

theorem observeAsserted_viewPart (s : State) : s.observeAsserted.viewPart = s.viewPart := by
  simp [viewPart, observeAsserted, giveSlu]

theorem observeReleased_viewPart (s : State) : s.observeReleased.viewPart = s.viewPart := by
  unfold observeReleased
  split <;> rfl

theorem actOnTrip_viewPart (s : State) : s.countTrip.actOnTrip.viewPart = s.viewPart := by
  unfold actOnTrip latchTrip holdTrip countTrip
  (repeat' split) <;> simp [viewPart, setCounters]

end State

/-! ### What a record names -/

/-- The record of a frame that LRX classifies names a station ID if it is GOOD (R48 rule 4). -/
theorem recordOf_senderOk (bs : List Byte) (own : Bool) (n : Nat) (c : Content)
    (good : ∀ mm d, c = .good mm d → classify bs = .good d) : (QueueRecord.frame (recordOf bs own n c)).senderOk := by
  intro mm d e
  rw [recordOf_eq_ite] at e ⊢
  obtain ⟨length, -, rules⟩ := (classify_eq_good_iff bs d).1 (good mm d e)
  obtain ⟨-, -, -, -, nonzero, -⟩ := (frameRules_eq_some_iff bs d).1 rules
  exact ⟨frameSender bs, if_pos (by omega), Nat.pos_of_ne_zero nonzero, frameSender_le bs⟩

theorem contentOf_eq_good {c : Classified} {b mm : Bool} {d : Decoded} (h : contentOf c b = .good mm d) : c = .good d := by
  cases c <;> cases h
  rfl

/-- The sender of a peer's record is a station ID other than the own one. -/
def Head.FromPeer (own : Nat) : Head → Prop
  | .peerAnnounce x _ _ | .peerIntent x _ _ | .peerSettle x _ _ | .peerLeave x _ => 1 ≤ x ∧ x ≤ 31 ∧ x ≠ own
  | .nothing | .own _ | .duplicate _ | .error _ | .loss | .check => True

theorem headOfPeer_fromPeer (own x : Nat) (mm : Bool) (d : Decoded) (hx : 1 ≤ x ∧ x ≤ 31) :
    (headOfPeer own x mm d).FromPeer own := by
  by_cases same : x = own
  · cases d <;> simp [headOfPeer, Head.FromPeer, same]
  · cases d <;> simp [headOfPeer, Head.FromPeer, same, hx]

theorem headOfFrame_fromPeer (own : Nat) (r : FrameRecord) (hr : (QueueRecord.frame r).senderOk) :
    (headOfFrame own r).FromPeer own := by
  unfold headOfFrame
  split
  · rename_i mm d good
    split
    · trivial
    · split
      · trivial
      · obtain ⟨x, sender, hx⟩ := hr mm d good
        rw [sender]
        exact headOfPeer_fromPeer own x mm d hx
  all_goals split <;> trivial

namespace ViewSound

variable {s t : State}

theorem head (h : ViewSound s) : s.head.FromPeer s.ownId := by
  unfold State.head
  split
  · trivial
  · split
    · trivial
    · trivial
    · rename_i r rest records
      exact headOfFrame_fromPeer _ _ (h.senders _ (by simp [records]))

/-! ### The Link Receiver -/

theorem setLrx (h : ViewSound s) (l : Lrx) : ViewSound (s.setLrx l) := h.frame

theorem frameStart (h : ViewSound s) (ht : s.frameStart = some t) : ViewSound t := h.frame (State.frameStart_viewPart ht)

/-- A frame that ends before its EOD has no GOOD record. -/
theorem discardFrame (h : ViewSound s) (bs : List Byte) (n : Nat) (c : Content) (bad : ∀ mm d, c ≠ .good mm d) :
    ViewSound (s.discardFrame bs n c) :=
  (ViewSound.handRecord (h.setLrx _) _ (recordOf_senderOk bs false n c fun mm d e => absurd e (bad mm d))).settle

theorem attemptSent (h : ViewSound s) (good : Bool) : ViewSound (s.attemptSent good) := h.frame

theorem frameEnds (h : ViewSound s) (bs : List Byte) : ViewSound (s.frameEnds bs) := by
  have classified (b : Bool) := recordOf_senderOk bs s.ltx.attempt.isSome bs.length (contentOf (classify bs) b) fun _ _ =>
    contentOf_eq_good
  have recorded := (h.setLrx { s.lrx with state := .hunt true, lineCount := (s.countFrame (classify bs) bs).1 }).handRecord _
    (classified (s.countFrame (classify bs) bs).2)
  exact ((recorded.frame (State.handOff_viewPart ..)).attemptSent _).settle

/-! ### The notices of AU, and CLEAR ALARMS -/

theorem auNoticesTaken (h : ViewSound s) (cleared : Word16) : ViewSound (s.auNoticesTaken cleared) := by
  refine s.auNoticesTaken_induction cleared ViewSound h fun t ht n => ?_
  have taken : ViewSound t.takeAu := { ht with }
  cases n with
  | forceAlarm k => exact taken.withdrawalCause.endOfCeEvent
  | cleared => exact taken.endOfCeEvent

theorem clearNamed (h : ViewSound s) (named : Word16) : ViewSound (s.clearNamed named) := by
  refine settle (ite ?_ ?_)
  all_goals exact { h with }

end ViewSound

end Sys2Proof.Machine
end

section
/-! ## What each command does to the view, and every step (O60) -/

namespace Sys2Proof.Machine

namespace ViewSound

variable {s : State}

theorem leads_if {t : State} {b : Bool} (h : ViewSound s) (ht : b = true → ViewSound t) :
    Leads (if b then .next t else .next s) ViewSound := leads_ite ht h

/-- A request whose carrying out keeps the view sound does so with its answer. -/
theorem leads_answer (h : ViewSound s) (request : Byte) (enough taken inRange : Bool) (carry : State → Carried)
    (carried : taken = true → ∀ t, t = s.endTransaction → ViewSound t → ViewSound (carry t).state) :
    Leads (.next (s.answer request enough taken inRange carry)) ViewSound := by
  have ended : ViewSound s.endTransaction := h.frame
  have answers {t : State} (ht : ViewSound t) (code : RespCode) (data : List Byte) :
      ViewSound (t.respond code request data) := ht.frame
  refine (leads_next ..).2 (s.answer_induction ViewSound request enough taken inRange carry h ?_ ?_)
  · exact fun code => answers ended code []
  · exact fun _ _ taken _ => answers (carried taken _ rfl ended) _ _

/-! ### The Link Receiver and the Link Transmitter -/

theorem execStartDelimiter (h : ViewSound s) : Leads (execStartDelimiter s) ViewSound := by
  unfold Machine.execStartDelimiter
  split
  · exact (leads_next ..).2 h
  · rename_i t ht
    exact (leads_next ..).2 ((h.frameStart ht).setLrx _)

theorem execMalformedStart (h : ViewSound s) : Leads (execMalformedStart s) ViewSound := by
  unfold Machine.execMalformedStart
  split
  · exact (leads_next ..).2 h
  · rename_i t ht
    exact (leads_next ..).2 ((h.frameStart ht).discardFrame _ _ _ (by simp))

theorem execViolation (h : ViewSound s) : Leads (execViolation s) ViewSound := by
  unfold Machine.execViolation
  split
  · refine (leads_next ..).2 (h.discardFrame _ _ _ fun _ _ => ?_)
    split <;> simp
  all_goals exact (leads_next ..).2 h

theorem execTooLong (h : ViewSound s) : Leads (execTooLong s) ViewSound := by
  unfold Machine.execTooLong
  split
  · split
    · exact (leads_next ..).2 (h.discardFrame _ _ _ (by simp))
    · exact (leads_next ..).2 h
  all_goals exact (leads_next ..).2 h

theorem execEndDelimiter (h : ViewSound s) : Leads (execEndDelimiter s) ViewSound := by
  have recessive : ViewSound s.sdlTwoCellsRecessive := h.frame
  unfold Machine.execEndDelimiter
  split
  · exact (leads_next ..).2 (recessive.frameEnds _)
  all_goals exact h.leads_if fun _ => (recessive.attemptSent false).settle

theorem execLineIdle (h : ViewSound s) : Leads (execLineIdle s) ViewSound := by
  unfold Machine.execLineIdle
  split
  · split
    all_goals exact (leads_next ..).2 h.frame
  · exact (leads_next ..).2 h

theorem execWholeByte (h : ViewSound s) (b : Byte) : Leads (execWholeByte b s) ViewSound := by
  unfold Machine.execWholeByte
  split
  · split
    · dsimp only
      split
      all_goals exact (leads_next ..).2 h.frame
    · exact (leads_next ..).2 (h.discardFrame _ _ _ (by simp))
  all_goals exact (leads_next ..).2 h

theorem execAttemptStart (h : ViewSound s) : Leads (execAttemptStart s) ViewSound := by
  unfold Machine.execAttemptStart
  split
  · exact (leads_next ..).2 h
  · exact (leads_next ..).2 (h.setLtx _)

theorem execLostArbitration (h : ViewSound s) : Leads (execLostArbitration s) ViewSound := by
  unfold Machine.execLostArbitration
  split
  · exact (leads_next ..).2 h
  · exact (leads_next ..).2 (h.frame (s.loseArbitration_viewPart _))

theorem execTransmitFault (h : ViewSound s) : Leads (execTransmitFault s) ViewSound := by
  unfold Machine.execTransmitFault
  split
  · exact (leads_next ..).2 h
  · exact (leads_next ..).2 (h.frame (s.meetFault_viewPart _)).settle

/-! ### The records -/

/-- CE takes the head whole, and takes none in DETACHED. -/
theorem taken (h : ViewSound s) {x : Head} (hx : s.head = x) (present : x ≠ .nothing) :
    ViewSound s.dropHead ∧ s.dropHead.own.attach ≠ .detached ∧ x.FromPeer s.dropHead.ownId :=
  ⟨h.dropHead, s.attach_of_head (hx ▸ present), hx ▸ h.head⟩

theorem execTakeAnnounce (h : ViewSound s) : Leads (execTakeAnnounce s) ViewSound := by
  unfold Machine.execTakeAnnounce
  split
  · rename_i hx
    obtain ⟨dropped, attach, sender⟩ := h.taken hx (by simp)
    exact (leads_next ..).2 ((dropped.peerAnnounce attach sender _ _).confirm _).endOfCeEvent
  all_goals exact (leads_next ..).2 h

theorem execTakeIntent (h : ViewSound s) : Leads (execTakeIntent s) ViewSound := by
  unfold Machine.execTakeIntent
  split
  · rename_i hx
    obtain ⟨dropped, attach, sender⟩ := h.taken hx (by simp)
    exact (leads_next ..).2 ((dropped.peerIntent attach sender _ _).confirm _).endOfCeEvent
  all_goals exact (leads_next ..).2 h

theorem execTakeSettle (h : ViewSound s) : Leads (execTakeSettle s) ViewSound := by
  unfold Machine.execTakeSettle
  split
  · rename_i hx
    obtain ⟨dropped, attach, sender⟩ := h.taken hx (by simp)
    exact (leads_next ..).2 ((dropped.peerSettle attach sender _ _).confirm _).endOfCeEvent
  all_goals exact (leads_next ..).2 h

theorem execTakeLeave (h : ViewSound s) : Leads (execTakeLeave s) ViewSound := by
  unfold Machine.execTakeLeave
  split
  · rename_i hx
    obtain ⟨dropped, -, -, -, other⟩ := h.taken hx (by simp)
    exact (leads_next ..).2 ((dropped.peerLeave other _).confirm _).endOfCeEvent
  all_goals exact (leads_next ..).2 h

theorem execTakeOwnRecord (h : ViewSound s) : Leads (execTakeOwnRecord s) ViewSound := by
  unfold Machine.execTakeOwnRecord
  split
  · exact (leads_next ..).2 (h.dropHead.ownRecord _).endOfCeEvent
  all_goals exact (leads_next ..).2 h

theorem execTakeDuplicateRecord (h : ViewSound s) : Leads (execTakeDuplicateRecord s) ViewSound := by
  unfold Machine.execTakeDuplicateRecord
  split
  · exact (leads_next ..).2 (h.dropHead.duplicateRecord _).endOfCeEvent
  all_goals exact (leads_next ..).2 h

theorem execTakeErrorRecord (h : ViewSound s) : Leads (execTakeErrorRecord s) ViewSound := by
  unfold Machine.execTakeErrorRecord
  split
  · exact (leads_next ..).2 (h.dropHead.errorRecord _).endOfCeEvent
  all_goals exact (leads_next ..).2 h

theorem execTakeLossRecord (h : ViewSound s) : Leads (execTakeLossRecord s) ViewSound := by
  unfold Machine.execTakeLossRecord
  split
  · exact (leads_next ..).2 h.dropHead.unrefresh.openingDoubt.endOfCeEvent
  all_goals exact (leads_next ..).2 h

theorem execTakeCheckRecord (h : ViewSound s) : Leads (execTakeCheckRecord s) ViewSound := by
  unfold Machine.execTakeCheckRecord
  split
  · exact (leads_next ..).2 h.dropHead.endOfCeEvent
  all_goals exact (leads_next ..).2 h

/-! ### The timers of the Claim Engine -/

theorem execPeerLost (h : ViewSound s) (id : Nat) : Leads (execPeerLost id s) ViewSound := by
  unfold Machine.execPeerLost
  split
  · exact (leads_next ..).2 h
  · rename_i p found
    exact h.leads_if fun _ => (h.loseRecord (mem_of_findPeer found).1).endOfCeEvent

theorem execPeerForgotten (h : ViewSound s) (id : Nat) : Leads (execPeerForgotten id s) ViewSound := by
  unfold Machine.execPeerForgotten
  split
  · exact (leads_next ..).2 h
  · rename_i p found
    obtain ⟨mem, rfl⟩ := mem_of_findPeer found
    refine h.leads_if fun due => (h.forgetRecord mem ?_).endOfCeEvent
    simpa using (Bool.and_eq_true_iff.1 due).1

theorem execHoldWindowExpiry (h : ViewSound s) : Leads (execHoldWindowExpiry s) ViewSound :=
  h.leads_if fun due => (h.decideIntent (s.holdDue_iff.1 due).1).endOfCeEvent

theorem execRetryTimerExpiry (h : ViewSound s) : Leads (execRetryTimerExpiry s) ViewSound := by
  refine h.leads_if fun due => endOfCeEvent ?_
  exact h.setOwn _ (by simp [(s.retryDue_iff.1 due).1]) (fun hn => absurd rfl hn) id

theorem execListenTimerExpiry (h : ViewSound s) : Leads (execListenTimerExpiry s) ViewSound := by
  refine h.leads_if fun _ => endOfCeEvent ?_
  exact h.setOwn _ .rfl (fun _ => .inl rfl) fun hd => nomatch hd

/-! ### The notices -/

theorem takeLtx (h : ViewSound s) : ViewSound s.takeLtx := h.frame rfl

theorem execSentNotice (h : ViewSound s) : Leads (execSentNotice s) ViewSound := by
  unfold Machine.execSentNotice
  split
  · exact (leads_next ..).2 (h.takeLtx.takeSent _).endOfCeEvent
  · exact (leads_next ..).2 h

theorem execDroppedNotice (h : ViewSound s) : Leads (execDroppedNotice s) ViewSound := by
  unfold Machine.execDroppedNotice
  split
  · exact (leads_next ..).2 (h.takeLtx.takeDropped _).endOfCeEvent
  · exact (leads_next ..).2 h

theorem execRecalledNotice (h : ViewSound s) : Leads (execRecalledNotice s) ViewSound := by
  unfold Machine.execRecalledNotice
  split
  · exact (leads_next ..).2 h.takeLtx.takeRecalled.endOfCeEvent
  · exact (leads_next ..).2 h

theorem execIsolatedNotice (h : ViewSound s) : Leads (execIsolatedNotice s) ViewSound := by
  unfold Machine.execIsolatedNotice
  split
  · exact (leads_next ..).2 h.takeLtx.takeIsolated.endOfCeEvent
  · exact (leads_next ..).2 h

theorem execIsolationEndNotice (h : ViewSound s) : Leads (execIsolationEndNotice s) ViewSound := by
  unfold Machine.execIsolationEndNotice
  split
  · exact (leads_next ..).2 h.takeLtx.takeIsolationEnd.endOfCeEvent
  · exact (leads_next ..).2 h

theorem execRejoinNotice (h : ViewSound s) : Leads (execRejoinNotice s) ViewSound := by
  unfold Machine.execRejoinNotice
  split
  · exact (leads_next ..).2 (endOfCeEvent (ite h.takeLtx.takeRejoin h.takeLtx))
  · exact (leads_next ..).2 h

theorem execCheckPassed (h : ViewSound s) : Leads (execCheckPassed s) ViewSound := by
  unfold Machine.execCheckPassed
  split
  · refine (leads_next ..).2 (endOfCeEvent ?_)
    split
    · rename_i hd
      exact h.takeLtx.enterListening hd
    · exact h.takeLtx
  · exact (leads_next ..).2 h

theorem execCheckFailed (h : ViewSound s) : Leads (execCheckFailed s) ViewSound := by
  unfold Machine.execCheckFailed
  split
  · exact (leads_next ..).2 h.takeLtx.endOfCeEvent
  · exact (leads_next ..).2 h

theorem takeSlu (h : ViewSound s) : ViewSound s.takeSlu := h.frame rfl

theorem execShedStartNotice (h : ViewSound s) : Leads (execShedStartNotice s) ViewSound := by
  unfold Machine.execShedStartNotice
  split
  · exact (leads_next ..).2 h.takeSlu.withdrawalCause.endOfCeEvent
  · exact (leads_next ..).2 h

theorem execShedEndNotice (h : ViewSound s) : Leads (execShedEndNotice s) ViewSound := by
  unfold Machine.execShedEndNotice
  split
  · split
    · exact (leads_next ..).2 h
    · exact (leads_next ..).2 h.takeSlu.endOfCeEvent
  · exact (leads_next ..).2 h

theorem takeAu (h : ViewSound s) : ViewSound s.takeAu := h.frame rfl

theorem execForceAlarmNotice (h : ViewSound s) : Leads (execForceAlarmNotice s) ViewSound := by
  unfold Machine.execForceAlarmNotice
  split
  · exact (leads_next ..).2 h.takeAu.withdrawalCause.endOfCeEvent
  · exact (leads_next ..).2 h

theorem execClearedNotice (h : ViewSound s) : Leads (execClearedNotice s) ViewSound := by
  unfold Machine.execClearedNotice
  split
  · exact (leads_next ..).2 h.takeAu.endOfCeEvent
  · exact (leads_next ..).2 h

theorem execProfileChangeEvent (h : ViewSound s) : Leads (execProfileChangeEvent s) ViewSound := by
  have taken : ViewSound s.takePfu := h.frame rfl
  unfold Machine.execProfileChangeEvent
  split
  · exact (leads_next ..).2 (endOfCeEvent (ite (taken.applyProfileChange _) taken))
  · exact (leads_next ..).2 h

/-! ### The other units, and the Local Port -/

theorem execPselChange (h : ViewSound s) (a b c : Bool) : Leads (execPselChange a b c s) ViewSound := by
  unfold Machine.execPselChange
  dsimp only
  split
  · exact (leads_next ..).2 (h.frame rfl)
  · split
    · exact (leads_next ..).2 h
    · exact (leads_next ..).2 (h.frame rfl)

theorem execShdLevelChange (h : ViewSound s) (l : Level) : Leads (execShdLevelChange l s) ViewSound := by
  have observed : ViewSound s.observesDue :=
    ite (h.frame s.observeAsserted_viewPart).settle (ite (h.frame s.observeReleased_viewPart).settle h)
  unfold Machine.execShdLevelChange
  split
  · exact (leads_next ..).2 (h.frame rfl)
  · split
    · exact (leads_next ..).2 h
    · exact (leads_next ..).2 (observed.frame rfl)

theorem execPwmeEdge (h : ViewSound s) (rising : Bool) : Leads (execPwmeEdge rising s) ViewSound := by
  unfold Machine.execPwmeEdge
  dsimp only
  split
  · exact (leads_next ..).2 (h.frame rfl)
  · split
    · exact (leads_next ..).2 (settle (h.frame rfl))
    · exact (leads_next ..).2 (settle (h.frame rfl))

theorem execTransactionStart (h : ViewSound s) : Leads (execTransactionStart s) ViewSound := by
  unfold Machine.execTransactionStart
  split
  · exact (leads_next ..).2 h
  · exact (leads_next ..).2 (h.frame rfl)

/-- An event that leaves the view alone, but for what follows the outputs. -/
theorem leads_settle_if {t : State} {b : Bool} (h : ViewSound s) (same : t.viewPart = s.viewPart) :
    Leads (if b then .next t.settle else .next s) ViewSound := h.leads_if fun _ => (h.frame same).settle

/-- The station ID changes in DETACHED alone, where the table is empty (R175). -/
theorem storeConfig (h : ViewSound s) (c : ConfigRecord) (hd : s.own.attach = .detached) : ViewSound (s.storeConfig c) :=
  settle (h.of_detached hd rfl rfl rfl)

theorem beginRun (h : ViewSound s) (m : CheckMode) (o : CheckOwner) : ViewSound (s.beginRun m o) :=
  ViewSound.request ((h.setLtx _).setLrx _) .check

/-- Every command keeps the view sound. -/
theorem exec (c : Instr) (h : ViewSound s) : Leads (exec c s) ViewSound := by
  cases c with
  | fullReset => exact (leads_next ..).2 (.inFullReset ..)
  | startDelimiter => exact h.execStartDelimiter
  | malformedStart => exact h.execMalformedStart
  | violation => exact h.execViolation
  | tooLong => exact h.execTooLong
  | endDelimiter => exact h.execEndDelimiter
  | lineIdle => exact h.execLineIdle
  | wholeByte b => exact h.execWholeByte b
  | sdlDominant => exact (leads_next ..).2 h.frame
  | attemptStart => exact h.execAttemptStart
  | lostArbitration => exact h.execLostArbitration
  | transmitFault => exact h.execTransmitFault
  | announceTimerExpiry => exact h.leads_if fun _ => (h.setLtx _).request .announce
  | isolationTimer3P => exact h.leads_if fun _ => h.frame rfl
  | isolationTimer40P => exact h.leads_if fun _ => h.frame rfl
  | repeatTimerExpiry => exact h.leads_if fun _ => ViewSound.request (h.setLtx _) .check
  | peerLost id => exact h.execPeerLost id
  | peerForgotten id => exact h.execPeerForgotten id
  | duplicateTimerExpiry => exact h.leads_if fun _ => endOfCeEvent { h with }
  | takeAnnounce => exact h.execTakeAnnounce
  | takeIntent => exact h.execTakeIntent
  | takeSettle => exact h.execTakeSettle
  | takeLeave => exact h.execTakeLeave
  | takeOwnRecord => exact h.execTakeOwnRecord
  | takeDuplicateRecord => exact h.execTakeDuplicateRecord
  | takeErrorRecord => exact h.execTakeErrorRecord
  | takeLossRecord => exact h.execTakeLossRecord
  | takeCheckRecord => exact h.execTakeCheckRecord
  | holdWindowExpiry => exact h.execHoldWindowExpiry
  | retryTimerExpiry => exact h.execRetryTimerExpiry
  | listenTimerExpiry => exact h.execListenTimerExpiry
  | sentNotice => exact h.execSentNotice
  | droppedNotice => exact h.execDroppedNotice
  | recalledNotice => exact h.execRecalledNotice
  | isolatedNotice => exact h.execIsolatedNotice
  | isolationEndNotice => exact h.execIsolationEndNotice
  | rejoinNotice => exact h.execRejoinNotice
  | checkPassed => exact h.execCheckPassed
  | checkFailed => exact h.execCheckFailed
  | shedStartNotice => exact h.execShedStartNotice
  | shedEndNotice => exact h.execShedEndNotice
  | forceAlarmNotice => exact h.execForceAlarmNotice
  | clearedNotice => exact h.execClearedNotice
  | pselChange a b c => exact h.execPselChange a b c
  | settleTimerExpiry => exact h.leads_if fun _ => h.frame rfl
  | profileChangeEvent => exact h.execProfileChangeEvent
  | shdLevelChange l => exact h.execShdLevelChange l
  | shdObservedAsserted => exact h.leads_settle_if s.observeAsserted_viewPart
  | shdObservedReleased => exact h.leads_settle_if s.observeReleased_viewPart
  | recoveryTimerExpiry => exact h.leads_settle_if rfl
  | pwmeEdge rising => exact h.execPwmeEdge rising
  | blankingEnd => exact h.leads_settle_if rfl
  | senseChange n => exact (leads_next ..).2 (settle (h.frame rfl))
  | trip => exact h.leads_settle_if s.actOnTrip_viewPart
  | tripHoldEnd => exact h.leads_settle_if rfl
  | cleanTimerExpiry => exact h.leads_if fun _ => h.frame rfl
  | followTimerExpiry => exact h.leads_settle_if rfl
  | transactionStart => exact h.execTransactionStart
  | transactionWithoutRequest => exact h.leads_if fun _ => h.frame rfl
  | unknownRequest code => exact h.leads_if fun _ => h.frame rfl
  | nop => exact h.leads_if fun _ => h.frame rfl
  | readStatus => exact h.leads_answer _ _ _ _ _ fun _ t _ ht => ht
  | readSnapshot ps => exact h.leads_answer _ _ _ _ _ fun _ t _ ht => ht
  | readCapture => exact h.leads_answer _ _ _ _ _ fun _ t _ ht => ht.frame rfl
  | readCounters ps => exact h.leads_answer _ _ _ _ _ fun _ t _ ht => ite (ht.frame rfl) ht
  | configure ps =>
    refine h.leads_answer _ _ _ _ _ fun taken t ht sound => sound.storeConfig _ ?_
    simpa [ht, State.idleDetached] using (Bool.and_eq_true_iff.1 taken).1
  | join => exact h.leads_answer _ _ _ _ _ fun _ t _ ht => ht.beginRun _ _
  | leave => exact h.leads_answer _ _ _ _ _ fun _ t _ ht => ht.takeLeaveRequest.endOfCeEvent
  | setTarget ps => exact h.leads_answer _ _ _ _ _ fun _ t _ ht => (ht.applyTarget _ _).endOfCeEvent
  | reEnable => exact h.leads_answer _ _ _ _ _ fun _ t _ ht => settle (ht.frame rfl)
  | assertShed => exact h.leads_answer _ _ _ _ _ fun _ t _ ht => settle (ht.frame rfl)
  | releaseShed => exact h.leads_answer _ _ _ _ _ fun _ t _ ht => settle (ht.frame rfl)
  | clearAlarms ps => exact h.leads_answer _ _ _ _ _ fun _ t _ ht => (ht.auNoticesTaken _).clearNamed _
  | takeSnapshot => exact h.leads_answer _ _ _ _ _ fun _ t _ ht => endOfCeEvent (ht.frame rfl)
  | lineCheck ps => exact h.leads_answer _ _ _ _ _ fun _ t _ ht => ht.beginRun _ _
  | stopCheck => exact h.leads_answer _ _ _ _ _ fun _ t _ ht => ht.frame t.stopRun_viewPart
  | endOfFullReset => exact h.leads_if fun _ => h.frame rfl
  | resetIgnoreEnd => exact h.leads_if fun _ => h.frame rfl

end ViewSound

/-- Settles O60: each command and the passing of time keep the view sound. -/
theorem viewStaysSound : Obligations.ViewStaysSound := fun s t h hstep => by
  rcases step_cases s t hstep with ⟨c, q, n, he⟩ | ⟨n, rfl⟩
  · exact ViewSound.exec c (s := (s.setPending q).setFreeCount n) (h.frame rfl) t he
  · exact ViewSound.tick (s := s.setFreeCount n) (h.frame rfl)

end Sys2Proof.Machine
end

section
/-! ## The records without a peer's fields: duplicates, errors, losses and CHECK (O28) -/

namespace Sys2Proof.Machine

namespace State

variable {s : State} {rest : List QueueRecord} {r : FrameRecord}

/-! ### The row of R53 that the head falls under -/

theorem head_of_frame (ha : s.own.attach ≠ .detached) (hq : s.rsq.records = .frame r :: rest) : s.head = headOfFrame s.ownId r := by
  simp only [head, if_neg ha, hq]

theorem head_of_loss {n : Nat} (ha : s.own.attach ≠ .detached) (hq : s.rsq.records = .loss n :: rest) : s.head = .loss := by
  simp only [head, if_neg ha, hq]

end State

/-- A GOOD numbered frame that names the own station ID and is not own comes from a duplicate (R65). -/
theorem headOfFrame_of_duplicate {own : Nat} {r : FrameRecord} {mm : Bool} {d : Decoded} (ho : r.own = false)
    (hs : r.sender = some own) (hc : r.content = .good mm d) (hd : d ≠ .check) : headOfFrame own r = .duplicate mm := by
  simp only [headOfFrame, hc, if_neg hd, ho, hs]
  cases d with
  | check => exact absurd rfl hd
  | announce f => exact if_pos rfl
  | intent f => exact if_pos rfl
  | settle f => exact if_pos rfl
  | leave => exact if_pos rfl

theorem headOfFrame_of_fragment {own : Nat} {r : FrameRecord} (ho : r.own = false) (hc : r.content = .fragment) :
    headOfFrame own r = .error true := by
  simp [headOfFrame, ho, hc]

theorem headOfFrame_of_error {own : Nat} {r : FrameRecord} (ho : r.own = false)
    (hc : r.content = .crcError ∨ r.content = .symbolError ∨ r.content = .tooLong ∨ r.content = .formatError) :
    headOfFrame own r = .error false := by
  rcases hc with hc | hc | hc | hc <;> simp [headOfFrame, ho, hc]

theorem headOfFrame_of_check {own : Nat} {r : FrameRecord} {mm : Bool} (hc : r.content = .good mm .check) :
    headOfFrame own r = .check := by
  simp [headOfFrame, hc]

namespace State

variable {s : State}

/-! ### The commands that take them -/

theorem exec_takeDuplicateRecord {mm : Bool} (h : s.head = .duplicate mm) :
    exec .takeDuplicateRecord s = .next (s.dropHead.duplicateRecord mm).endOfCeEvent := by
  change execTakeDuplicateRecord s = _
  rw [execTakeDuplicateRecord, h]

theorem exec_takeErrorRecord {fragment : Bool} (h : s.head = .error fragment) :
    exec .takeErrorRecord s = .next (s.dropHead.errorRecord fragment).endOfCeEvent := by
  change execTakeErrorRecord s = _
  rw [execTakeErrorRecord, h]

theorem exec_takeLossRecord (h : s.head = .loss) :
    exec .takeLossRecord s = .next s.dropHead.unrefresh.openingDoubt.endOfCeEvent := by
  change execTakeLossRecord s = _
  rw [execTakeLossRecord, h]

theorem exec_takeCheckRecord (h : s.head = .check) : exec .takeCheckRecord s = .next s.dropHead.endOfCeEvent := by
  change execTakeCheckRecord s = _
  rw [execTakeCheckRecord, h]

/-! ### The doubt that a loss brings (R83) -/

theorem openingDoubt_of_other (h : s.own.intentState ≠ .opening) : s.openingDoubt = s := if_neg h

theorem openingDoubt_before_sent (h : s.own.intentState = .opening) (hs : s.own.sentMark = false) :
    s.openingDoubt = s.setOwn { s.own with doubtMark := true } :=
  (if_pos h).trans (if_neg (by simp [hs]))

theorem openingDoubt_after_sent (h : s.own.intentState = .opening) (hs : s.own.sentMark = true) :
    s.openingDoubt = s.resolve .withdrawn 0 none :=
  (if_pos h).trans (if_pos hs)

/-- The timer restarts with the configured 5P, which neither the unrefresh nor the alarm changes (R65). -/
theorem duplicateRecord_eq (s : State) (mm : Bool) : s.duplicateRecord mm =
    { fire .duplicateId (s.unrefreshIf mm) with
      view := { (fire .duplicateId (s.unrefreshIf mm)).view with duplicate := some (5 * s.period) } } := by
  have period : (fire .duplicateId (s.unrefreshIf mm)).period = s.period := by simp [State.period, readConfig]
  rw [← period]
  rfl

end State

/-- Settles O28: each of the four commands by the row of R53 that the head falls under. -/
theorem takeOtherRecords : Obligations.TakeOtherRecords := by
  intro s u v h rest ha hq hu hv
  have dropped : s.dropHead = u := hu.symm
  have unrefreshed : u.unrefresh = v := by rw [hv, hu]; rfl
  have own : v.own = s.own := by rw [hv, hu]
  refine ⟨fun r mm d w hr ho hs hc hd hw => ?_, fun r hr ho => ⟨fun hc => ?_, fun hc => ?_⟩, fun n hn => ?_,
    fun r mm hr hc => ?_⟩
  · subst hr
    rw [State.exec_takeDuplicateRecord ((State.head_of_frame ha hq).trans (headOfFrame_of_duplicate ho hs hc hd)), dropped,
      State.duplicateRecord_eq, State.unrefreshIf, unrefreshed, ← hw, hu]
    rfl
  · subst hr
    rw [State.exec_takeErrorRecord ((State.head_of_frame ha hq).trans (headOfFrame_of_fragment ho hc)), dropped]
    rfl
  · subst hr
    rw [State.exec_takeErrorRecord ((State.head_of_frame ha hq).trans (headOfFrame_of_error ho hc)), dropped, ← unrefreshed]
    rfl
  · subst hn
    rw [State.exec_takeLossRecord (State.head_of_loss ha hq), dropped, unrefreshed, ← own]
    refine ⟨fun hi => ?_, fun hi hm => ?_, fun hi hm => ?_⟩
    · rw [State.openingDoubt_of_other hi]
    · rw [State.openingDoubt_before_sent hi hm]
      rfl
    · rw [State.openingDoubt_after_sent hi hm]
  · subst hr
    rw [State.exec_takeCheckRecord ((State.head_of_frame ha hq).trans (headOfFrame_of_check hc)), dropped]

end Sys2Proof.Machine
end

section
/-! ## The peer table and the intent list, operation by operation (O24) -/

namespace Sys2Proof.Machine

/-! ### The record of a station -/

theorem findPeer_cons (y : Nat) (p : Peer) (ps : List Peer) :
    findPeer y (p :: ps) = if y = p.id then some p else findPeer y ps := by
  by_cases h : y = p.id
  · simp [findPeer, h]
  · simp [findPeer, h, Ne.symm h]

theorem heardPeer_of_unknown {x : Nat} {ps : List Peer} (h : findPeer x ps = none) : heardPeer x ps = newPeer x := by
  rw [heardPeer, h]

theorem heardPeer_of_known {x : Nat} {ps : List Peer} {p : Peer} (h : findPeer x ps = some p) :
    heardPeer x ps = { p with presence := .live, quiet := 0 } := by
  rw [heardPeer, h]

/-- The records that `putPeer` passes over are of lower station IDs, so that the order of the table plays no part. -/
theorem findPeer_putPeer (y : Nat) (p : Peer) (ps : List Peer) :
    findPeer y (putPeer p ps) = if y = p.id then some p else findPeer y ps := by
  induction ps with
  | nil => exact findPeer_cons y p []
  | cons q qs ih =>
    unfold putPeer
    split
    · exact findPeer_cons y p _
    · split
      · rename_i _ same
        rw [findPeer_cons, findPeer_cons, ← same]
        split <;> rfl
      · rename_i _ other
        rw [findPeer_cons, ih, findPeer_cons]
        by_cases hp : y = p.id
        · rw [if_pos hp, if_neg (hp.trans_ne other), if_pos hp]
        · rw [if_neg hp, if_neg hp]

theorem findPeer_removePeer (x y : Nat) (ps : List Peer) :
    findPeer y (removePeer x ps) = if y = x then none else findPeer y ps := by
  rw [findPeer, removePeer, List.find?_filter]
  split
  · rename_i h
    simp [h]
  · rename_i h
    refine List.find?_congr fun p _ => ?_
    by_cases hp : p.id = y
    · simp [hp, h]
    · simp [hp]

/-- A change of the records that leaves the station IDs alone. -/
theorem findPeer_map (y : Nat) (f : Peer → Peer) (ps : List Peer) (sameId : ∀ p, (f p).id = p.id) :
    findPeer y (ps.map f) = (findPeer y ps).map f := by
  simp only [findPeer, List.find?_map, Function.comp_def, sameId]

theorem Peer.isLive_eq_true_iff (p : Peer) : p.isLive = true ↔ p.presence = .live := by
  simp [Peer.isLive]

theorem unrefreshPeers_eq_map (ps : List Peer) :
    unrefreshPeers ps = ps.map (fun p => if p.presence = .live then { p with refreshed := false } else p) := by
  simp only [unrefreshPeers, Peer.isLive_eq_true_iff]

theorem findPeer_unrefreshPeers (y : Nat) (ps : List Peer) : findPeer y (unrefreshPeers ps) =
    (findPeer y ps).map (fun p => if p.presence = .live then { p with refreshed := false } else p) := by
  rw [unrefreshPeers_eq_map]
  exact findPeer_map y _ ps fun p => by split <;> rfl

/-! ### The reference station -/

theorem referenceOf_eq_none_iff (own : Nat) (ps : List Peer) :
    referenceOf own ps = none ↔ ∀ p ∈ ps, p.presence = .live → own ≤ p.id := by
  simp [referenceOf, Peer.isLive]

/-- In an ascending table the first LIVE record below the own ID is the LIVE record of lowest ID. -/
theorem referenceOf_eq_some {own x : Nat} {ps : List Peer} (ascending : ps.Pairwise (fun p q => p.id < q.id))
    (h : referenceOf own ps = some x) :
    x < own ∧ (∃ p ∈ ps, p.id = x ∧ p.presence = .live) ∧ ∀ p ∈ ps, p.presence = .live → x ≤ p.id := by
  obtain ⟨p, found, rfl⟩ := Option.map_eq_some_iff.1 h
  obtain ⟨here, front, back, rfl, before⟩ := List.find?_eq_some_iff_append.1 found
  obtain ⟨live, below⟩ : p.presence = .live ∧ p.id < own := by simpa [Peer.isLive] using here
  refine ⟨below, ⟨p, by simp, rfl, live⟩, fun q hq hl => ?_⟩
  obtain ⟨-, behind, -⟩ := List.pairwise_append.1 ascending
  rcases List.mem_append.1 hq with hq | hq
  · have above : own ≤ q.id := by simpa [Peer.isLive, hl] using before q hq
    omega
  · rcases List.mem_cons.1 hq with rfl | hq
    · exact le_rfl
    · exact ((List.pairwise_cons.1 behind).1 q hq).le

/-! ### The entry of a station -/

theorem reconcile_of_same {x n : Nat} {es : List Entry} {e : Entry} (h : findEntry x es = some e) (hn : e.number = n) (d : Nat) :
    reconcile x (some (n, d)) es = es := by
  simp only [reconcile, h, if_pos hn]

theorem reconcile_of_other {x n : Nat} {es : List Entry} {e : Entry} (h : findEntry x es = some e) (hn : e.number ≠ n) (d : Nat) :
    reconcile x (some (n, d)) es = removeEntry x es ++ [peerEntry x n d .learned] := by
  simp only [reconcile, h, if_neg hn]

theorem reconcile_of_absent {x : Nat} {es : List Entry} (h : findEntry x es = none) (n d : Nat) :
    reconcile x (some (n, d)) es = es ++ [peerEntry x n d .learned] := by
  simp only [reconcile, h]

/-- Settles O24: each operation by its own lemma. -/
theorem peerTableOperations : Obligations.PeerTableOperations :=
  ⟨fun _ _ => heardPeer_of_unknown, fun _ _ _ => heardPeer_of_known, findPeer_putPeer, findPeer_removePeer,
    findPeer_unrefreshPeers, referenceOf_eq_none_iff, fun _ _ _ => referenceOf_eq_some,
    fun _ _ d _ _ h hn => reconcile_of_same h hn d, fun _ _ d _ _ h hn => reconcile_of_other h hn d,
    fun _ n d _ h => reconcile_of_absent h n d, fun _ _ => rfl⟩

end Sys2Proof.Machine
end

section
/-! ## Certainty, the view total, the floor sum and the pending ahead (O30) -/

namespace Sys2Proof.Machine

theorem State.certain_eq_true_iff (s : State) : s.certain = true ↔
    s.own.attach ≠ .listening ∧ (∀ p ∈ s.view.peers, p.presence = .live → p.refreshed = true) ∧
      holdsKind s.au.flags .duplicateId = false := by
  simp [State.certain, Peer.isLive, and_assoc, imp_iff_not_or]

/-- R70. -/
theorem Peer.counted_eq (p : Peer) : p.counted =
    if p.presence = .live then p.committed else match p.floor with | none => p.committed | some f => min p.committed f := by
  unfold Peer.counted
  split <;> simp [*]

/-- R71. -/
theorem Peer.floorCounted_eq (p : Peer) : p.floorCounted =
    if p.presence = .live then (match p.floor with | none => p.committed | some f => f)
    else match p.floor with | none => p.committed | some f => min p.committed f := by
  unfold Peer.floorCounted
  split
  · rename_i live
    rw [if_pos live]
    cases p.floor <;> rfl
  · rename_i lost
    rw [Peer.counted_eq, lost]
    rfl

/-- The entries before the first own one are the ones that are pending ahead of it. -/
theorem pendingAhead_of_own {front back : List Entry} {e : Entry} (hf : ∀ x ∈ front, x.own = false) (he : e.own = true) :
    pendingAhead (front ++ e :: back) = some (front.map (·.delta)).sum := by
  have present : (front ++ e :: back).any (·.own) = true := by simp [he]
  have ahead : (front ++ e :: back).takeWhile (fun x => !x.own) = front := by
    rw [List.takeWhile_append_of_pos (by simpa using hf)]
    simp [he]
  rw [pendingAhead, if_pos present, ahead]

theorem pendingAhead_of_none_own {es : List Entry} (h : ∀ x ∈ es, x.own = false) : pendingAhead es = none :=
  if_neg (by simpa using h)

/-- Settles O30: the sums by what each record counts for. -/
theorem viewCounts : Obligations.ViewCounts := by
  refine ⟨State.certain_eq_true_iff, fun s => ?_, fun s => ?_, fun _ _ _ => pendingAhead_of_own,
    fun _ => pendingAhead_of_none_own⟩
  · rw [State.viewTotal]
    exact congrArg (s.own.committed + List.sum ·) (List.map_congr_left fun p _ => p.counted_eq)
  · rw [State.floorSum]
    exact congrArg (s.floor + List.sum ·) (List.map_congr_left fun p _ => p.floorCounted_eq)

end Sys2Proof.Machine
end

section
/-! ## Only the decision grants (O34): the shared operations

Every other resolution is WITHDRAWN, DEFERRED or REFUSED, and nothing but a resolution or a reset writes the resolution: what a command
other than HOLD_WINDOW_EXPIRY leaves is either no GRANTED resolution or the one that stood before (`NoNewGrant`). -/

namespace Sys2Proof.Machine

/-- A GRANTED resolution of this state is the resolution `old`. -/
def NoNewGrant (old : Option SettleFields) (s : State) : Prop :=
  ∀ r, s.own.resolution = some r → r.outcome = .granted → old = some r

namespace NoNewGrant

variable {old : Option SettleFields} {s t : State}

theorem refl (s : State) : NoNewGrant s.own.resolution s := fun _ hr _ => hr

/-- What leaves the resolution alone. -/
theorem frame (h : NoNewGrant old s) (same : t.own.resolution = s.own.resolution) : NoNewGrant old t := by
  rw [NoNewGrant, same]
  exact h

/-- What leaves the own context alone. -/
theorem frameOwn (h : NoNewGrant old s) (same : t.own = s.own) : NoNewGrant old t :=
  h.frame (congrArg OwnContext.resolution same)

theorem ite {p : Prop} [Decidable p] {s t : State} (ht : NoNewGrant old t) (hs : NoNewGrant old s) :
    NoNewGrant old (if p then t else s) := by
  split
  · exact ht
  · exact hs

theorem of_none (h : s.own.resolution = none) : NoNewGrant old s := fun _ hr => by
  rw [h] at hr
  cases hr

/-- A resolution of another outcome. -/
theorem of_resolve (s : State) {o : IntentOutcome} (ho : o ≠ .granted) (granted : Nat) (m : Option MarginClass) :
    NoNewGrant old (s.resolve o granted m) := fun r hr hg => by
  rw [State.resolve_resolution, Option.some.injEq] at hr
  subst hr
  exact absurd hg ho

theorem resolveWithdrawn (s : State) : NoNewGrant old s.resolveWithdrawn := of_resolve s (by decide) 0 none

/-- A change of the own context that leaves the resolution alone. -/
theorem setOwn (h : NoNewGrant old s) (c : OwnContext) (same : c.resolution = s.own.resolution) :
    NoNewGrant old (s.setOwn c) := h.frame same

/-! ### What the Claim Engine does to an intent -/

theorem request (h : NoNewGrant old s) (k : FrameKind) : NoNewGrant old (s.request k) := h.frame (by simp)

theorem settle (h : NoNewGrant old s) : NoNewGrant old s.settle := h.frame (by simp)

theorem fire (h : NoNewGrant old s) (k : AlarmKind) : NoNewGrant old (s.fire k) := h.frame (by simp)

theorem endOfCeEvent (h : NoNewGrant old s) : NoNewGrant old s.endOfCeEvent := by
  obtain ⟨-, -, resolution⟩ := s.endOfCeEvent_claim
  exact h.frame resolution

theorem withdrawalCause (h : NoNewGrant old s) : NoNewGrant old s.withdrawalCause := by
  unfold State.withdrawalCause
  split
  · exact h
  · exact h
  · exact h
  · exact ite h (h.frame (by simp))
  · exact resolveWithdrawn s

theorem decrease (h : NoNewGrant old s) : NoNewGrant old s.decrease := ite ((h.setOwn _ (by rfl)).request .announce) (h.setOwn _ rfl)

theorem takeReadback (h : NoNewGrant old s) : NoNewGrant old s.takeReadback := ite (resolveWithdrawn s) (h.frame rfl)

theorem openingDoubt (h : NoNewGrant old s) : NoNewGrant old s.openingDoubt := ite (ite (resolveWithdrawn s) (h.setOwn _ rfl)) h

theorem openingSent (h : NoNewGrant old s) : NoNewGrant old s.openingSent := ite (resolveWithdrawn s) (h.setOwn _ rfl)

theorem endSettling (h : NoNewGrant old s) : NoNewGrant old s.endSettling := ite (h.setOwn _ rfl) (h.setOwn _ rfl)

theorem takeRecalled (h : NoNewGrant old s) : NoNewGrant old s.takeRecalled := ite (h.frame rfl) h

theorem takeSent (h : NoNewGrant old s) (k : FrameKind) : NoNewGrant old (s.takeSent k) := by
  cases k with
  | intent => exact ite h.openingSent h
  | settle => exact ite h.endSettling h
  | leave => exact ite (of_none rfl) h
  | announce => exact h
  | check => exact h

theorem takeDropped (h : NoNewGrant old s) (k : FrameKind) : NoNewGrant old (s.takeDropped k) := by
  cases k with
  | intent => exact h.takeRecalled
  | settle => exact h.takeSent .settle
  | leave => exact h.takeSent .leave
  | announce => exact h
  | check => exact h

theorem takeIsolated (h : NoNewGrant old s) : NoNewGrant old s.takeIsolated := by
  have flagged := (h.withdrawalCause.setOwn { s.withdrawalCause.own with isolated := true } rfl).fire .isolated
  exact ite (ite ((flagged.setOwn _ (by rfl)).request .announce) flagged) h

theorem takeIsolationEnd (h : NoNewGrant old s) : NoNewGrant old s.takeIsolationEnd := ite (h.setOwn _ rfl) h

theorem takeLeaveRequest (h : NoNewGrant old s) : NoNewGrant old s.takeLeaveRequest := h.frame rfl

theorem proportionalShed (h : NoNewGrant old s) (b : Nat) : NoNewGrant old (s.proportionalShed b) := by
  have announced := (h.setOwn { s.own with committed := s.shedClaim b } rfl).request .announce
  exact ite (ite (ite announced.withdrawalCause announced) (h.setOwn _ rfl)) h

theorem applyProfileChange (h : NoNewGrant old s) (b : Nat) : NoNewGrant old (s.applyProfileChange b) := by
  have unrefreshed : NoNewGrant old s.unrefresh := h.frame rfl
  have window : NoNewGrant old s.unrefresh.withdrawWindow := ite (resolveWithdrawn _) unrefreshed
  have shed := window.proportionalShed b
  exact ite (shed.fire .budgetDeficit) shed

theorem applyTarget (h : NoNewGrant old s) (target minStep : Nat) : NoNewGrant old (s.applyTarget target minStep) := by
  have set := h.setOwn { s.own with target := target, minStep := minStep } rfl
  exact ite (ite set.withdrawalCause.decrease set.withdrawalCause) set

theorem auNoticesTaken (h : NoNewGrant old s) (cleared : Word16) : NoNewGrant old (s.auNoticesTaken cleared) := by
  refine s.auNoticesTaken_induction cleared (NoNewGrant old) h fun t ht n => ?_
  have taken : NoNewGrant old t.takeAu := ht.frame rfl
  cases n with
  | forceAlarm k => exact taken.withdrawalCause.endOfCeEvent
  | cleared => exact taken.endOfCeEvent

/-! ### The records -/

theorem confirm (h : NoNewGrant old s) (mm : Bool) : NoNewGrant old (s.confirm mm) := ite (h.setOwn _ rfl) h

theorem ownGood (h : NoNewGrant old s) (mm : Bool) (d : Decoded) : NoNewGrant old (s.ownGood mm d) := by
  have unrefreshed : NoNewGrant old (s.unrefreshIf mm) := h.frame (by simp)
  cases d with
  | intent f => exact ite unrefreshed.takeReadback unrefreshed
  | announce f => exact unrefreshed
  | settle f => exact unrefreshed
  | leave => exact unrefreshed
  | check => exact unrefreshed

theorem ownRecord (h : NoNewGrant old s) (c : Content) : NoNewGrant old (s.ownRecord c) := by
  have unrefreshed : NoNewGrant old s.unrefresh := h.frame rfl
  refine ite h ?_
  cases c with
  | good mm d => exact h.ownGood mm d
  | fragment => exact h.openingDoubt
  | crcError => exact unrefreshed.openingDoubt
  | symbolError => exact unrefreshed.openingDoubt
  | tooLong => exact unrefreshed.openingDoubt
  | formatError => exact unrefreshed.openingDoubt

end NoNewGrant

/-! ### What leaves the own context alone -/

namespace State

variable {s t : State}

theorem frameStart_own (h : s.frameStart = some t) : t.own = s.own := (congrArg own (s.frameStart_frame t h).1 :)

theorem handOff_own (s : State) (c : Classified) (bs : List Byte) : (s.handOff c bs).own = s.own := by
  unfold handOff alignAnnounce
  (repeat' split) <;> rfl

theorem loseArbitration_own (s : State) (k : FrameKind) : (s.loseArbitration k).own = s.own := by
  unfold loseArbitration
  dsimp only
  split <;> simp [setCounters, releaseSdl]

theorem meetFault_own (s : State) (k : FrameKind) : (s.meetFault k).own = s.own := by
  unfold meetFault
  dsimp only
  split <;> simp [setCounters, releaseSdl]

theorem nextCheck_own (s : State) : s.nextCheck.own = s.own := by simp [nextCheck]

theorem beginRun_own (s : State) (m : CheckMode) (o : CheckOwner) : (s.beginRun m o).own = s.own := by simp [beginRun]

theorem stopRun_own (s : State) : s.stopRun.own = s.own := by
  unfold stopRun
  (repeat' split) <;> rfl

theorem observeAsserted_own (s : State) : s.observeAsserted.own = s.own := by simp [observeAsserted, giveSlu]

theorem observeReleased_own (s : State) : s.observeReleased.own = s.own := by
  unfold observeReleased
  split <;> rfl

theorem actOnTrip_own (s : State) : s.countTrip.actOnTrip.own = s.own := by
  unfold actOnTrip latchTrip holdTrip countTrip
  (repeat' split) <;> simp [setCounters]

theorem discardFrame_own (s : State) (bs : List Byte) (n : Nat) (c : Content) : (s.discardFrame bs n c).own = s.own := by
  simp [discardFrame]

theorem frameEnds_own (s : State) (bs : List Byte) : (s.frameEnds bs).own = s.own := by
  simp [frameEnds, handOff_own]

theorem duplicateRecord_own (s : State) (mm : Bool) : (s.duplicateRecord mm).own = s.own := by
  simp [duplicateRecord]

theorem clearNamed_own (s : State) (named : Word16) : (s.clearNamed named).own = s.own := by
  unfold clearNamed
  dsimp only
  split <;> simp [giveAu]

end State

end Sys2Proof.Machine
end

section
/-! ## Only the decision grants (O34): every command -/

namespace Sys2Proof.Machine

namespace NoNewGrant

variable {old : Option SettleFields} {s : State}

theorem leads_if {t : State} {b : Bool} (h : NoNewGrant old s) (ht : NoNewGrant old t) :
    Leads (if b then .next t else .next s) (NoNewGrant old) := leads_ite (fun _ => ht) h

/-- A request whose carrying out brings no grant does so with its answer. -/
theorem leads_answer (h : NoNewGrant old s) (request : Byte) (enough taken inRange : Bool) (carry : State → Carried)
    (carried : ∀ t, NoNewGrant old t → NoNewGrant old (carry t).state) :
    Leads (.next (s.answer request enough taken inRange carry)) (NoNewGrant old) := by
  have ended : NoNewGrant old s.endTransaction := h.frameOwn rfl
  refine (leads_next ..).2 (s.answer_induction (NoNewGrant old) request enough taken inRange carry h ?_ ?_)
  · exact fun _ => ended.frameOwn rfl
  · exact fun _ _ _ _ => (carried _ ended).frameOwn rfl

/-! ### The Link Receiver and the Link Transmitter -/

theorem execStartDelimiter (h : NoNewGrant old s) : Leads (execStartDelimiter s) (NoNewGrant old) := by
  unfold Machine.execStartDelimiter
  split
  · exact (leads_next ..).2 h
  · rename_i t ht
    have started : NoNewGrant old t := h.frameOwn (State.frameStart_own ht)
    exact (leads_next ..).2 (started.frameOwn rfl)

theorem execMalformedStart (h : NoNewGrant old s) : Leads (execMalformedStart s) (NoNewGrant old) := by
  unfold Machine.execMalformedStart
  split
  · exact (leads_next ..).2 h
  · rename_i t ht
    exact (leads_next ..).2 (h.frameOwn ((t.discardFrame_own ..).trans (State.frameStart_own ht)))

theorem execViolation (h : NoNewGrant old s) : Leads (execViolation s) (NoNewGrant old) := by
  unfold Machine.execViolation
  split
  · exact (leads_next ..).2 (h.frameOwn (s.discardFrame_own ..))
  all_goals exact (leads_next ..).2 h

theorem execTooLong (h : NoNewGrant old s) : Leads (execTooLong s) (NoNewGrant old) := by
  unfold Machine.execTooLong
  split
  · split
    · exact (leads_next ..).2 (h.frameOwn (s.discardFrame_own ..))
    · exact (leads_next ..).2 h
  all_goals exact (leads_next ..).2 h

theorem execEndDelimiter (h : NoNewGrant old s) : Leads (execEndDelimiter s) (NoNewGrant old) := by
  unfold Machine.execEndDelimiter
  split
  · exact (leads_next ..).2 (h.frameOwn (s.sdlTwoCellsRecessive.frameEnds_own _))
  all_goals exact h.leads_if (h.frameOwn (by simp))

theorem execLineIdle (h : NoNewGrant old s) : Leads (execLineIdle s) (NoNewGrant old) := by
  unfold Machine.execLineIdle
  split
  · split
    all_goals exact (leads_next ..).2 (h.frameOwn (by simp))
  · exact (leads_next ..).2 h

theorem execWholeByte (h : NoNewGrant old s) (b : Byte) : Leads (execWholeByte b s) (NoNewGrant old) := by
  unfold Machine.execWholeByte
  split
  · split
    · dsimp only
      split
      all_goals exact (leads_next ..).2 (h.frameOwn rfl)
    · exact (leads_next ..).2 (h.frameOwn (s.discardFrame_own ..))
  all_goals exact (leads_next ..).2 h

theorem execAttemptStart (h : NoNewGrant old s) : Leads (execAttemptStart s) (NoNewGrant old) := by
  unfold Machine.execAttemptStart
  split
  · exact (leads_next ..).2 h
  · exact (leads_next ..).2 (h.frameOwn rfl)

theorem execLostArbitration (h : NoNewGrant old s) : Leads (execLostArbitration s) (NoNewGrant old) := by
  unfold Machine.execLostArbitration
  split
  · exact (leads_next ..).2 h
  · exact (leads_next ..).2 (h.frameOwn (s.loseArbitration_own _))

theorem execTransmitFault (h : NoNewGrant old s) : Leads (execTransmitFault s) (NoNewGrant old) := by
  unfold Machine.execTransmitFault
  split
  · exact (leads_next ..).2 h
  · exact (leads_next ..).2 (h.frameOwn (s.meetFault_own _)).settle

/-! ### The records -/

theorem dropHead (h : NoNewGrant old s) : NoNewGrant old s.dropHead := h.frameOwn rfl

theorem execTakeAnnounce (h : NoNewGrant old s) : Leads (execTakeAnnounce s) (NoNewGrant old) := by
  unfold Machine.execTakeAnnounce
  split
  · exact (leads_next ..).2 (h.dropHead.frameOwn (s.dropHead.peerAnnounce_own ..) |>.confirm _).endOfCeEvent
  all_goals exact (leads_next ..).2 h

theorem execTakeIntent (h : NoNewGrant old s) : Leads (execTakeIntent s) (NoNewGrant old) := by
  unfold Machine.execTakeIntent
  split
  · exact (leads_next ..).2 (h.dropHead.frameOwn (s.dropHead.peerIntent_own ..) |>.confirm _).endOfCeEvent
  all_goals exact (leads_next ..).2 h

theorem execTakeSettle (h : NoNewGrant old s) : Leads (execTakeSettle s) (NoNewGrant old) := by
  unfold Machine.execTakeSettle
  split
  · exact (leads_next ..).2 (h.dropHead.frameOwn (s.dropHead.peerSettle_own ..) |>.confirm _).endOfCeEvent
  all_goals exact (leads_next ..).2 h

theorem execTakeLeave (h : NoNewGrant old s) : Leads (execTakeLeave s) (NoNewGrant old) := by
  unfold Machine.execTakeLeave
  split
  · exact (leads_next ..).2 (h.dropHead.frameOwn (s.dropHead.peerLeave_own ..) |>.confirm _).endOfCeEvent
  all_goals exact (leads_next ..).2 h

theorem execTakeOwnRecord (h : NoNewGrant old s) : Leads (execTakeOwnRecord s) (NoNewGrant old) := by
  unfold Machine.execTakeOwnRecord
  split
  · exact (leads_next ..).2 (h.dropHead.ownRecord _).endOfCeEvent
  all_goals exact (leads_next ..).2 h

theorem execTakeDuplicateRecord (h : NoNewGrant old s) : Leads (execTakeDuplicateRecord s) (NoNewGrant old) := by
  unfold Machine.execTakeDuplicateRecord
  split
  · exact (leads_next ..).2 (h.dropHead.frameOwn (s.dropHead.duplicateRecord_own _)).endOfCeEvent
  all_goals exact (leads_next ..).2 h

theorem execTakeErrorRecord (h : NoNewGrant old s) : Leads (execTakeErrorRecord s) (NoNewGrant old) := by
  unfold Machine.execTakeErrorRecord
  split
  · exact (leads_next ..).2 (endOfCeEvent (ite h.dropHead (h.dropHead.frameOwn rfl)))
  all_goals exact (leads_next ..).2 h

theorem execTakeLossRecord (h : NoNewGrant old s) : Leads (execTakeLossRecord s) (NoNewGrant old) := by
  have unrefreshed : NoNewGrant old s.dropHead.unrefresh := h.frameOwn rfl
  unfold Machine.execTakeLossRecord
  split
  · exact (leads_next ..).2 unrefreshed.openingDoubt.endOfCeEvent
  all_goals exact (leads_next ..).2 h

theorem execTakeCheckRecord (h : NoNewGrant old s) : Leads (execTakeCheckRecord s) (NoNewGrant old) := by
  unfold Machine.execTakeCheckRecord
  split
  · exact (leads_next ..).2 h.dropHead.endOfCeEvent
  all_goals exact (leads_next ..).2 h

theorem execPeerLost (h : NoNewGrant old s) (id : Nat) : Leads (execPeerLost id s) (NoNewGrant old) := by
  unfold Machine.execPeerLost
  split
  · exact (leads_next ..).2 h
  · exact h.leads_if (endOfCeEvent (h.frameOwn rfl))

theorem execPeerForgotten (h : NoNewGrant old s) (id : Nat) : Leads (execPeerForgotten id s) (NoNewGrant old) := by
  unfold Machine.execPeerForgotten
  split
  · exact (leads_next ..).2 h
  · exact h.leads_if (endOfCeEvent (h.frameOwn rfl))

/-! ### The notices -/

theorem takeLtx (h : NoNewGrant old s) : NoNewGrant old s.takeLtx := h.frameOwn rfl

theorem execSentNotice (h : NoNewGrant old s) : Leads (execSentNotice s) (NoNewGrant old) := by
  unfold Machine.execSentNotice
  split
  · exact (leads_next ..).2 (h.takeLtx.takeSent _).endOfCeEvent
  · exact (leads_next ..).2 h

theorem execDroppedNotice (h : NoNewGrant old s) : Leads (execDroppedNotice s) (NoNewGrant old) := by
  unfold Machine.execDroppedNotice
  split
  · exact (leads_next ..).2 (h.takeLtx.takeDropped _).endOfCeEvent
  · exact (leads_next ..).2 h

theorem execRecalledNotice (h : NoNewGrant old s) : Leads (execRecalledNotice s) (NoNewGrant old) := by
  unfold Machine.execRecalledNotice
  split
  · exact (leads_next ..).2 h.takeLtx.takeRecalled.endOfCeEvent
  · exact (leads_next ..).2 h

theorem execIsolatedNotice (h : NoNewGrant old s) : Leads (execIsolatedNotice s) (NoNewGrant old) := by
  unfold Machine.execIsolatedNotice
  split
  · exact (leads_next ..).2 h.takeLtx.takeIsolated.endOfCeEvent
  · exact (leads_next ..).2 h

theorem execIsolationEndNotice (h : NoNewGrant old s) : Leads (execIsolationEndNotice s) (NoNewGrant old) := by
  unfold Machine.execIsolationEndNotice
  split
  · exact (leads_next ..).2 h.takeLtx.takeIsolationEnd.endOfCeEvent
  · exact (leads_next ..).2 h

theorem execRejoinNotice (h : NoNewGrant old s) : Leads (execRejoinNotice s) (NoNewGrant old) := by
  unfold Machine.execRejoinNotice
  split
  · exact (leads_next ..).2 (endOfCeEvent (ite (h.frame rfl) h.takeLtx))
  · exact (leads_next ..).2 h

theorem execCheckPassed (h : NoNewGrant old s) : Leads (execCheckPassed s) (NoNewGrant old) := by
  unfold Machine.execCheckPassed
  split
  · exact (leads_next ..).2 (endOfCeEvent (ite (h.frame rfl) h.takeLtx))
  · exact (leads_next ..).2 h

theorem execCheckFailed (h : NoNewGrant old s) : Leads (execCheckFailed s) (NoNewGrant old) := by
  unfold Machine.execCheckFailed
  split
  · exact (leads_next ..).2 h.takeLtx.endOfCeEvent
  · exact (leads_next ..).2 h

theorem execShedStartNotice (h : NoNewGrant old s) : Leads (execShedStartNotice s) (NoNewGrant old) := by
  have taken : NoNewGrant old s.takeSlu := h.frameOwn rfl
  unfold Machine.execShedStartNotice
  split
  · exact (leads_next ..).2 taken.withdrawalCause.endOfCeEvent
  · exact (leads_next ..).2 h

theorem execShedEndNotice (h : NoNewGrant old s) : Leads (execShedEndNotice s) (NoNewGrant old) := by
  unfold Machine.execShedEndNotice
  split
  · split
    · exact (leads_next ..).2 h
    · exact (leads_next ..).2 (endOfCeEvent (h.frameOwn rfl))
  · exact (leads_next ..).2 h

theorem execForceAlarmNotice (h : NoNewGrant old s) : Leads (execForceAlarmNotice s) (NoNewGrant old) := by
  have taken : NoNewGrant old s.takeAu := h.frameOwn rfl
  unfold Machine.execForceAlarmNotice
  split
  · exact (leads_next ..).2 taken.withdrawalCause.endOfCeEvent
  · exact (leads_next ..).2 h

theorem execClearedNotice (h : NoNewGrant old s) : Leads (execClearedNotice s) (NoNewGrant old) := by
  unfold Machine.execClearedNotice
  split
  · exact (leads_next ..).2 (endOfCeEvent (h.frameOwn rfl))
  · exact (leads_next ..).2 h

theorem execProfileChangeEvent (h : NoNewGrant old s) : Leads (execProfileChangeEvent s) (NoNewGrant old) := by
  have taken : NoNewGrant old s.takePfu := h.frameOwn rfl
  unfold Machine.execProfileChangeEvent
  split
  · exact (leads_next ..).2 (endOfCeEvent (ite (taken.applyProfileChange _) taken))
  · exact (leads_next ..).2 h

/-! ### The other units -/

theorem execPselChange (h : NoNewGrant old s) (a b c : Bool) : Leads (execPselChange a b c s) (NoNewGrant old) := by
  unfold Machine.execPselChange
  dsimp only
  split
  · exact (leads_next ..).2 (h.frameOwn rfl)
  · split
    · exact (leads_next ..).2 h
    · exact (leads_next ..).2 (h.frameOwn rfl)

theorem execShdLevelChange (h : NoNewGrant old s) (l : Level) : Leads (execShdLevelChange l s) (NoNewGrant old) := by
  have observed : NoNewGrant old s.observesDue :=
    ite (h.frameOwn s.observeAsserted_own).settle (ite (h.frameOwn s.observeReleased_own).settle h)
  unfold Machine.execShdLevelChange
  split
  · exact (leads_next ..).2 (h.frameOwn rfl)
  · split
    · exact (leads_next ..).2 h
    · exact (leads_next ..).2 (observed.frameOwn rfl)

theorem execPwmeEdge (h : NoNewGrant old s) (rising : Bool) : Leads (execPwmeEdge rising s) (NoNewGrant old) := by
  unfold Machine.execPwmeEdge
  dsimp only
  split
  · exact (leads_next ..).2 (h.frameOwn rfl)
  · split
    · exact (leads_next ..).2 (settle (h.frameOwn rfl))
    · exact (leads_next ..).2 (settle (h.frameOwn rfl))

theorem execTransactionStart (h : NoNewGrant old s) : Leads (execTransactionStart s) (NoNewGrant old) := by
  unfold Machine.execTransactionStart
  split
  · exact (leads_next ..).2 h
  · exact (leads_next ..).2 (h.frameOwn rfl)

/-- No command but HOLD_WINDOW_EXPIRY brings a new grant. -/
theorem exec (c : Instr) (other : c ≠ .holdWindowExpiry) (h : NoNewGrant old s) : Leads (exec c s) (NoNewGrant old) := by
  cases c with
  | fullReset => exact (leads_next ..).2 (of_none rfl)
  | startDelimiter => exact h.execStartDelimiter
  | malformedStart => exact h.execMalformedStart
  | violation => exact h.execViolation
  | tooLong => exact h.execTooLong
  | endDelimiter => exact h.execEndDelimiter
  | lineIdle => exact h.execLineIdle
  | wholeByte b => exact h.execWholeByte b
  | sdlDominant => exact (leads_next ..).2 (h.frameOwn (by simp))
  | attemptStart => exact h.execAttemptStart
  | lostArbitration => exact h.execLostArbitration
  | transmitFault => exact h.execTransmitFault
  | announceTimerExpiry => exact h.leads_if (h.frameOwn (by simp))
  | isolationTimer3P => exact h.leads_if (h.frameOwn rfl)
  | isolationTimer40P => exact h.leads_if (h.frameOwn rfl)
  | repeatTimerExpiry => exact h.leads_if (h.frameOwn s.nextCheck_own)
  | peerLost id => exact h.execPeerLost id
  | peerForgotten id => exact h.execPeerForgotten id
  | duplicateTimerExpiry => exact h.leads_if (endOfCeEvent (h.frameOwn rfl))
  | takeAnnounce => exact h.execTakeAnnounce
  | takeIntent => exact h.execTakeIntent
  | takeSettle => exact h.execTakeSettle
  | takeLeave => exact h.execTakeLeave
  | takeOwnRecord => exact h.execTakeOwnRecord
  | takeDuplicateRecord => exact h.execTakeDuplicateRecord
  | takeErrorRecord => exact h.execTakeErrorRecord
  | takeLossRecord => exact h.execTakeLossRecord
  | takeCheckRecord => exact h.execTakeCheckRecord
  | holdWindowExpiry => exact absurd rfl other
  | retryTimerExpiry => exact h.leads_if (endOfCeEvent (h.setOwn _ rfl))
  | listenTimerExpiry => exact h.leads_if (endOfCeEvent (h.setOwn _ rfl))
  | sentNotice => exact h.execSentNotice
  | droppedNotice => exact h.execDroppedNotice
  | recalledNotice => exact h.execRecalledNotice
  | isolatedNotice => exact h.execIsolatedNotice
  | isolationEndNotice => exact h.execIsolationEndNotice
  | rejoinNotice => exact h.execRejoinNotice
  | checkPassed => exact h.execCheckPassed
  | checkFailed => exact h.execCheckFailed
  | shedStartNotice => exact h.execShedStartNotice
  | shedEndNotice => exact h.execShedEndNotice
  | forceAlarmNotice => exact h.execForceAlarmNotice
  | clearedNotice => exact h.execClearedNotice
  | pselChange a b c => exact h.execPselChange a b c
  | settleTimerExpiry => exact h.leads_if (h.frameOwn rfl)
  | profileChangeEvent => exact h.execProfileChangeEvent
  | shdLevelChange l => exact h.execShdLevelChange l
  | shdObservedAsserted => exact h.leads_if (h.frameOwn s.observeAsserted_own).settle
  | shdObservedReleased => exact h.leads_if (h.frameOwn s.observeReleased_own).settle
  | recoveryTimerExpiry => exact h.leads_if (settle (h.frameOwn rfl))
  | pwmeEdge rising => exact h.execPwmeEdge rising
  | blankingEnd => exact h.leads_if (settle (h.frameOwn rfl))
  | senseChange n => exact (leads_next ..).2 (settle (h.frameOwn rfl))
  | trip => exact h.leads_if (h.frameOwn s.actOnTrip_own).settle
  | tripHoldEnd => exact h.leads_if (settle (h.frameOwn rfl))
  | cleanTimerExpiry => exact h.leads_if (h.frameOwn rfl)
  | followTimerExpiry => exact h.leads_if (settle (h.frameOwn rfl))
  | transactionStart => exact h.execTransactionStart
  | transactionWithoutRequest => exact h.leads_if (h.frameOwn rfl)
  | unknownRequest code => exact h.leads_if (h.frameOwn rfl)
  | nop => exact h.leads_if (h.frameOwn rfl)
  | readStatus => exact h.leads_answer _ _ _ _ _ fun _ ht => ht
  | readSnapshot ps => exact h.leads_answer _ _ _ _ _ fun _ ht => ht
  | readCapture => exact h.leads_answer _ _ _ _ _ fun _ ht => ht.frameOwn rfl
  | readCounters ps => exact h.leads_answer _ _ _ _ _ fun _ ht => ite (ht.frameOwn rfl) ht
  | configure ps => exact h.leads_answer _ _ _ _ _ fun _ ht => settle (ht.frame rfl)
  | join => exact h.leads_answer _ _ _ _ _ fun t ht => ht.frameOwn (t.beginRun_own _ _)
  | leave => exact h.leads_answer _ _ _ _ _ fun _ ht => ht.takeLeaveRequest.endOfCeEvent
  | setTarget ps => exact h.leads_answer _ _ _ _ _ fun _ ht => (ht.applyTarget _ _).endOfCeEvent
  | reEnable => exact h.leads_answer _ _ _ _ _ fun _ ht => settle (ht.frameOwn rfl)
  | assertShed => exact h.leads_answer _ _ _ _ _ fun _ ht => settle (ht.frameOwn rfl)
  | releaseShed => exact h.leads_answer _ _ _ _ _ fun _ ht => settle (ht.frameOwn rfl)
  | clearAlarms ps => exact h.leads_answer _ _ _ _ _ fun _ ht => (ht.auNoticesTaken _).frameOwn (State.clearNamed_own ..)
  | takeSnapshot => exact h.leads_answer _ _ _ _ _ fun t ht => (ht.frameOwn (t := t.snapshotTaken) rfl).endOfCeEvent
  | lineCheck ps => exact h.leads_answer _ _ _ _ _ fun t ht => ht.frameOwn (t.beginRun_own _ _)
  | stopCheck => exact h.leads_answer _ _ _ _ _ fun t ht => ht.frameOwn t.stopRun_own
  | endOfFullReset => exact h.leads_if (h.frameOwn rfl)
  | resetIgnoreEnd => exact h.leads_if (h.frameOwn rfl)

end NoNewGrant

/-! ### The decision -/

namespace State

variable {s : State}

theorem decidesWithdrawn_eq_false_iff : s.decidesWithdrawn = false ↔
    s.shedInEffect = false ∧ s.own.isolated = false ∧ s.au.flags &&& s.au.forceMask = 0 := by
  simp [decidesWithdrawn, forceSet, and_assoc]

theorem anyLive_eq_false_iff : s.anyLive = false ↔ ∀ p ∈ s.view.peers, p.presence = .lost := by
  have lost (p : Peer) : p.isLive = false ↔ p.presence = .lost := by cases h : p.presence <;> simp [Peer.isLive, h]
  simp [anyLive, lost]

/-- What the decision needs besides the headroom for a grant. -/
theorem decidesDeferred_eq_false (h : s.decidesDeferred = false) :
    s.certain = true ∧ (s.own.confirmed = true ∨ ∀ p ∈ s.view.peers, p.presence = .lost) := by
  simp only [decidesDeferred, Bool.or_eq_false_iff, Bool.not_eq_false', Bool.and_eq_false_iff, anyLive_eq_false_iff] at h
  obtain ⟨⟨certain, confirmed⟩, -⟩ := h
  exact ⟨certain, confirmed⟩

end State

/-- The decision grants in no doubt, or it brings no new grant. -/
theorem decideIntent_cases (s : State) :
    NoNewGrant s.own.resolution s.decideIntent ∨ s.decidesWithdrawn = false ∧ s.decidesDeferred = false := by
  unfold State.decideIntent
  split
  · exact .inl (.resolveWithdrawn s)
  · rename_i notWithdrawn
    split
    · exact .inl (.of_resolve s (by decide) 0 none)
    · rename_i notDeferred
      exact .inr ⟨Bool.eq_false_iff.2 notWithdrawn, Bool.eq_false_iff.2 notDeferred⟩

theorem execHoldWindowExpiry_cases (s : State) :
    Leads (execHoldWindowExpiry s) (NoNewGrant s.own.resolution) ∨ s.decidesWithdrawn = false ∧ s.decidesDeferred = false :=
  (decideIntent_cases s).imp_left fun h => leads_ite (fun _ => h.endOfCeEvent) (.refl s)

/-- Settles O34: a GRANTED resolution that did not stand before comes from the decision, past its first two conditions. -/
theorem neverGrantedInDoubt : Obligations.NeverGrantedInDoubt := by
  intro c s t r hexec hr granted new
  have grants : ¬ Leads (exec c s) (NoNewGrant s.own.resolution) := fun h =>
    new (hr.trans (h t hexec r hr granted).symm)
  by_cases hc : c = .holdWindowExpiry
  · subst hc
    obtain ⟨notWithdrawn, notDeferred⟩ := (execHoldWindowExpiry_cases s).resolve_left grants
    obtain ⟨shed, isolated, forced⟩ := State.decidesWithdrawn_eq_false_iff.1 notWithdrawn
    obtain ⟨certain, confirmed⟩ := State.decidesDeferred_eq_false notDeferred
    exact ⟨certain, shed, isolated, forced, confirmed⟩
  · exact absurd (NoNewGrant.exec c hc (.refl s)) grants

end Sys2Proof.Machine
end

section
/-! ## The records at the port, byte by byte (O49)

Every clause reads a byte or a word of a record at a fixed offset, where the bytes of the record reduce to those of one field. What the
field's layout is read back as is said once per layout. -/

namespace Sys2Proof.Machine

/-! ### A field at an offset, by its layout -/

section

variable {b : List Byte} {k n : Nat}

theorem byteAt_of_u8 (h : b.getD k 0 = u8 n) : byteAt b k = n % 256 := by
  rw [byteAt, h, u8_toNat]

/-- A code fits its byte. -/
theorem byteAt_of_code (h : b.getD k 0 = u8 n) (fits : n ≤ 255) : byteAt b k = n :=
  (byteAt_of_u8 h).trans (Nat.mod_eq_of_lt (Nat.lt_succ_of_le fits))

theorem byteAt_of_uFlag {f : Bool} (h : b.getD k 0 = uFlag f) : byteAt b k = f.toNat := by
  rw [byteAt, h]
  cases f <;> rfl

theorem byteAt_of_u8Opt {o : Option Nat} (h : b.getD k 0 = u8Opt o) :
    byteAt b k = match (generalizing := false) o with | none => 0xFF | some n => n % 256 := by
  cases o with
  | none => exact congrArg BitVec.toNat h
  | some n => exact byteAt_of_u8 h

theorem byteAt_of_flagOpt {o : Option Bool} (h : b.getD k 0 = (o.map uFlag).getD 0xFF) :
    byteAt b k = match (generalizing := false) o with | none => 0xFF | some m => m.toNat := by
  cases o with
  | none => exact congrArg BitVec.toNat h
  | some m => exact byteAt_of_uFlag h

theorem wordAt_of_u16 (low : b.getD k 0 = u8 n) (high : b.getD (k + 1) 0 = u8 (n / 256)) : wordAt b k = n % 65536 := by
  rw [wordAt, byteAt_of_u8 low, byteAt_of_u8 high]
  omega

/-- The filler of an absent field (log 15). -/
theorem wordAt_of_absent (low : b.getD k 0 = u8 0xFFFF) (high : b.getD (k + 1) 0 = u8 (0xFFFF / 256)) : wordAt b k = 0xFFFF :=
  wordAt_of_u16 low high

theorem wordAt_of_u16Opt {o : Option Nat} (low : b.getD k 0 = u8 (o.getD 0xFFFF))
    (high : b.getD (k + 1) 0 = u8 (o.getD 0xFFFF / 256)) :
    wordAt b k = match (generalizing := false) o with | none => 0xFFFF | some n => n % 65536 := by
  rw [wordAt_of_u16 low high]
  cases o <;> rfl

/-- A timer value (log 13). -/
theorem wordAt_of_uTimer {t : Option Nat} (low : b.getD k 0 = u8 ((t.map tenths).getD 0xFFFF))
    (high : b.getD (k + 1) 0 = u8 ((t.map tenths).getD 0xFFFF / 256)) :
    wordAt b k = match (generalizing := false) t with | none => 0xFFFF | some n => tenths n % 65536 := by
  rw [wordAt_of_u16 low high]
  cases t <;> rfl

theorem wordAt_byteAt_of_u24 (low : b.getD k 0 = u8 n) (mid : b.getD (k + 1) 0 = u8 (n / 256))
    (high : b.getD (k + 2) 0 = u8 (n / 65536)) : wordAt b k + 65536 * byteAt b (k + 2) = n % 16777216 := by
  rw [wordAt_of_u16 low mid, byteAt_of_u8 high]
  omega

theorem wordAt_byteAt_of_u24Opt {o : Option Nat} (low : b.getD k 0 = u8 (o.getD 0xFFFFFF))
    (mid : b.getD (k + 1) 0 = u8 (o.getD 0xFFFFFF / 256)) (high : b.getD (k + 2) 0 = u8 (o.getD 0xFFFFFF / 65536)) :
    wordAt b k + 65536 * byteAt b (k + 2) =
      match (generalizing := false) o with | none => 0xFFFFFF | some n => n % 16777216 := by
  rw [wordAt_byteAt_of_u24 low mid high]
  cases o <;> rfl

/-- Eight flags in one byte, bit 0 first. -/
theorem byteAt_of_packBits {b0 b1 b2 b3 b4 b5 b6 b7 : Bool} (h : b.getD k 0 = packBits [b0, b1, b2, b3, b4, b5, b6, b7]) :
    byteAt b k = b0.toNat + 2 * b1.toNat + 4 * b2.toNat + 8 * b3.toNat + 16 * b4.toNat + 32 * b5.toNat + 64 * b6.toNat +
      128 * b7.toNat := by
  rw [byteAt, h, packBits, BitVec.toNat_ofNat]
  simp only [List.foldr_cons, List.foldr_nil]
  have bit (x : Bool) : x.toNat ≤ 1 := x.toNat_le
  have := bit b0; have := bit b1; have := bit b2; have := bit b3
  have := bit b4; have := bit b5; have := bit b6; have := bit b7
  omega

end

/-! ### The codes -/

theorem AttachState.code_le (a : AttachState) : a.code ≤ 255 := by cases a <;> decide

theorem IntentState.code_le (i : IntentState) : i.code ≤ 255 := by cases i <;> decide

theorem TripState.code_le (t : TripState) : t.code ≤ 2 := by cases t <;> decide

theorem outcomePortCode_le (o : Option IntentOutcome) : outcomePortCode o ≤ 4 := by
  cases o with
  | none => decide
  | some o => cases o <;> decide

theorem outcomePortCode_some (o : IntentOutcome) :
    outcomePortCode (some o) = match o with | .granted => 1 | .refused => 2 | .deferred => 3 | .withdrawn => 4 := by
  cases o <;> rfl

theorem marginPortCode_le (m : Option MarginClass) : marginPortCode m ≤ 3 := by
  cases m with
  | none => decide
  | some m => cases m <;> decide

theorem byteAt_of_outcome {b : List Byte} {k : Nat} {o : Option IntentOutcome} (h : b.getD k 0 = u8 (outcomePortCode o)) :
    byteAt b k = outcomePortCode o :=
  byteAt_of_code h ((outcomePortCode_le o).trans (by decide))

theorem byteAt_of_margin {b : List Byte} {k : Nat} {m : Option MarginClass} (h : b.getD k 0 = u8 (marginPortCode m)) :
    byteAt b k = marginPortCode m :=
  byteAt_of_code h ((marginPortCode_le m).trans (by decide))

theorem announcedPortCode_le (a : Option AnnouncedState) : announcedPortCode a ≤ 255 := by
  cases a with
  | none => decide
  | some a => cases a <;> decide

/-! ### The status record -/

theorem State.statusRecord_gate (s : State) :
    byteAt s.statusRecord 10 = s.oc.gate.toNat + 2 * s.cmon.trip.code := by
  refine byteAt_of_code rfl ?_
  have := s.oc.gate.toNat_le
  have := s.cmon.trip.code_le
  omega

theorem State.statusRecord_lastOutcome (s : State) : byteAt s.statusRecord 22 =
    outcomePortCode s.own.lastOutcome.outcome + 16 * marginPortCode s.own.lastOutcome.margin := by
  refine byteAt_of_code rfl ?_
  have := outcomePortCode_le s.own.lastOutcome.outcome
  have := marginPortCode_le s.own.lastOutcome.margin
  omega

/-! ### Groups of fields -/

/-- A byte of a part of a record, counted from where the part begins. -/
theorem byteAt_of_drop {b part : List Byte} {k : Nat} (h : b.drop k = part) (j : Nat) : byteAt b (k + j) = byteAt part j := by
  simp only [← h, byteAt, List.getD_eq_getElem?_getD, List.getElem?_drop]

theorem wordAt_of_drop {b part : List Byte} {k : Nat} (h : b.drop k = part) (j : Nat) : wordAt b (k + j) = wordAt part j := by
  rw [wordAt, wordAt, Nat.add_assoc, byteAt_of_drop h, byteAt_of_drop h]

/-- The current intent, absent or present (log 15). -/
theorem intentGroup_fields {b rest : List Byte} {k : Nat} (i : Option IntentFields) (h : b.drop k = intentGroup i ++ rest) :
    match (generalizing := false) i with
    | none => byteAt b k = 0 ∧ byteAt b (k + 1) = 0xFF ∧ wordAt b (k + 2) = 0xFFFF ∧ wordAt b (k + 4) = 0xFFFF ∧
        wordAt b (k + 6) = 0xFFFF
    | some f => byteAt b k = 1 ∧ byteAt b (k + 1) = f.number % 256 ∧ wordAt b (k + 2) = f.delta % 65536 ∧
        wordAt b (k + 4) = f.deltaMin % 65536 ∧ wordAt b (k + 6) = f.committedBefore % 65536 := by
  have byte := byteAt_of_drop h
  have word := wordAt_of_drop h
  cases i with
  | none =>
    exact ⟨byte 0, byte 1, (word 2).trans (wordAt_of_absent rfl rfl), (word 4).trans (wordAt_of_absent rfl rfl),
      (word 6).trans (wordAt_of_absent rfl rfl)⟩
  | some f =>
    exact ⟨byte 0, (byte 1).trans (byteAt_of_u8 rfl), (word 2).trans (wordAt_of_u16 rfl rfl),
      (word 4).trans (wordAt_of_u16 rfl rfl), (word 6).trans (wordAt_of_u16 rfl rfl)⟩

/-- The fields of a resolution or of a settlement, absent or present (log 15). -/
theorem settleGroup_fields {b rest : List Byte} {k : Nat} (r : Option SettleFields) (h : b.drop k = settleGroup r ++ rest) :
    match (generalizing := false) r with
    | none => byteAt b k = 0xFF ∧ byteAt b (k + 1) = 0xFF ∧ byteAt b (k + 2) = 3 ∧ wordAt b (k + 3) = 0xFFFF ∧
        wordAt b (k + 5) = 0xFFFF
    | some f => byteAt b k = f.number % 256 ∧ byteAt b (k + 1) =
          (match f.outcome with | .granted => 1 | .refused => 2 | .deferred => 3 | .withdrawn => 4) ∧
        byteAt b (k + 2) = marginPortCode f.margin ∧ wordAt b (k + 3) = f.granted % 65536 ∧
        wordAt b (k + 5) = f.committedAfter % 65536 := by
  have byte := byteAt_of_drop h
  have word := wordAt_of_drop h
  cases r with
  | none =>
    exact ⟨byte 0, byte 1, byte 2, (word 3).trans (wordAt_of_absent rfl rfl), (word 5).trans (wordAt_of_absent rfl rfl)⟩
  | some f =>
    exact ⟨(byte 0).trans (byteAt_of_u8 rfl),
      (byte 1).trans ((byteAt_of_outcome rfl).trans (outcomePortCode_some _)),
      (byte 2).trans (byteAt_of_margin rfl),
      (word 3).trans (wordAt_of_u16 rfl rfl), (word 5).trans (wordAt_of_u16 rfl rfl)⟩

/-! ### Timer values, and the capture record -/

/-- A timer value is the time in units of 0.1 ms, rounded down or up (log 13). -/
theorem tenths_bounds (t : Nat) : (t % 400 = 0 → tenths t = t / 400) ∧ t / 400 ≤ tenths t ∧ tenths t ≤ t / 400 + 1 := by
  have up := (Config.roundsUp t).toNat_le
  unfold tenths tenthMsTicks
  split
  · simp
  · rename_i h
    exact ⟨fun h0 => absurd h0 h, Nat.le_add_right .., Nat.add_le_add_left up _⟩

namespace State

variable (s : State)

theorem slotBytes_length (k : Nat) : (s.slotBytes k).length = 3 := by
  unfold slotBytes
  split <;> rfl

theorem runByte_le : s.runByte ≤ 255 := by
  unfold runByte
  cases s.ltx.check.run with
  | none => exact Nat.zero_le _
  | some r =>
    obtain ⟨mode, phase⟩ := r
    cases mode <;> cases phase <;> decide

theorem captureRecord_length : s.captureRecord.length = 29 := by
  rw [captureRecord, List.length_append, List.length_flatMap]
  simp only [slotBytes_length]
  rfl

end State

/-- Where the parts are of one length, a part begins at the multiple of it. -/
theorem drop_flatMap_of_length {f : Nat → List Byte} {n : Nat} (h : ∀ k, (f k).length = n) (xs : List Nat) (k : Nat) :
    (xs.flatMap f).drop (n * k) = (xs.drop k).flatMap f := by
  induction k generalizing xs with
  | zero => rfl
  | succ k ih =>
    cases xs with
    | nil => simp
    | cons x xs =>
      rw [List.flatMap_cons, Nat.mul_succ, Nat.add_comm, ← List.drop_drop, ← h x, List.drop_left, h x, ih]
      rfl

theorem State.captureRecord_drop (s : State) {k : Nat} (hk : k < 8) :
    ∃ rest, s.captureRecord.drop (5 + 3 * k) = s.slotBytes k ++ rest := by
  have slots := drop_flatMap_of_length s.slotBytes_length (List.range 8) k
  rw [List.drop_eq_getElem_cons (l := List.range 8) (by simpa using hk), List.flatMap_cons, List.getElem_range] at slots
  exact ⟨_, (List.drop_drop ..).symm.trans slots⟩

/-- Of an absent slot the value bytes are free (log 14). -/
theorem State.captureRecord_slot (s : State) {k : Nat} (hk : k < 8) :
    match s.ltx.capture.slots.getD k none with
    | none => byteAt s.captureRecord (5 + 3 * k) = 0
    | some w => byteAt s.captureRecord (5 + 3 * k) = 1 ∧ wordAt s.captureRecord (6 + 3 * k) = w % 65536 := by
  obtain ⟨rest, h⟩ := s.captureRecord_drop hk
  unfold State.slotBytes at h
  split <;> rename_i slot <;> rw [slot] at h
  · exact byteAt_of_drop h 0
  · rw [show 6 + 3 * k = 5 + 3 * k + 1 by omega]
    exact ⟨byteAt_of_drop h 0, (wordAt_of_drop h 1).trans (wordAt_of_u16 rfl rfl)⟩

/-- Settles O49: each record clause by clause, the field at each offset read back by its layout. -/
theorem recordLayouts : Obligations.RecordLayouts := by
  refine ⟨fun s b hb => ?_, tenths_bounds, fun o b timer hb ht => ?_, fun p b hb => ?_, fun p b hb => ?_, fun e b hb => ?_,
    fun s b hb => ?_⟩
  · have count (p : Peer → Bool) : s.view.peers.countP p % 256 = (s.view.peers.filter p).length % 256 := by
      rw [List.countP_eq_length_filter]
    unfold State.statusRecord at hb
    simp only [u16, u24, List.cons_append, List.nil_append] at hb
    subst hb
    exact ⟨rfl, byteAt_of_code rfl s.own.attach.code_le, byteAt_of_code rfl s.own.intentState.code_le,
      wordAt_of_u16 rfl rfl, wordAt_of_u16 rfl rfl, wordAt_of_u16 rfl rfl, wordAt_of_u16 rfl rfl, s.statusRecord_gate,
      byteAt_of_u8 rfl, byteAt_of_packBits rfl, byteAt_of_u8 rfl, wordAt_of_u16 rfl rfl, wordAt_byteAt_of_u24 rfl rfl rfl,
      (byteAt_of_u8 rfl).trans (count _), (byteAt_of_u8 rfl).trans (count _), byteAt_of_u8 rfl, s.statusRecord_lastOutcome,
      wordAt_of_u16 rfl rfl, (wordAt_of_u16 rfl rfl).trans (Nat.mod_eq_of_lt s.au.flags.isLt), wordAt_of_u16 rfl rfl⟩
  · have timerAt {k : Nat} {t : Option Nat} (low : b.getD k 0 = u8 ((t.map tenths).getD 0xFFFF))
        (high : b.getD (k + 1) 0 = u8 ((t.map tenths).getD 0xFFFF / 256)) : wordAt b k = timer t :=
      (wordAt_of_uTimer low high).trans (ht t).symm
    unfold ownRecordBytes at hb
    simp only [intentGroup, settleGroup, uTimer, u16, u24, u16Opt, u24Opt, List.cons_append, List.nil_append] at hb
    have present : byteAt b 30 = o.context.resolution.isSome.toNat := byteAt_of_uFlag (by rw [hb]; rfl)
    have fields := settleGroup_fields (b := b) (k := 31) o.context.resolution (by rw [hb]; rfl)
    subst hb
    refine ⟨rfl, byteAt_of_u8 rfl, byteAt_of_code rfl o.context.attach.code_le,
      byteAt_of_code rfl o.context.intentState.code_le, wordAt_of_u16 rfl rfl, wordAt_of_u16 rfl rfl, wordAt_of_u16 rfl rfl,
      wordAt_of_u16 rfl rfl, byteAt_of_u8 rfl, intentGroup_fields o.context.current rfl, byteAt_of_uFlag rfl,
      byteAt_of_uFlag rfl, byteAt_of_uFlag rfl, byteAt_of_uFlag rfl, timerAt rfl rfl, timerAt rfl rfl, timerAt rfl rfl, ?_,
      byteAt_of_outcome rfl, wordAt_of_u16 rfl rfl, byteAt_of_margin rfl, byteAt_of_uFlag rfl, byteAt_of_uFlag rfl,
      wordAt_byteAt_of_u24 rfl rfl rfl, wordAt_byteAt_of_u24Opt (o := o.pendingAhead) rfl rfl rfl,
      byteAt_of_u8Opt (o := o.reference) rfl, timerAt rfl rfl⟩
    generalize o.context.resolution = r at present fields ⊢
    cases r with
    | none => exact ⟨present, fields⟩
    | some f => exact ⟨present, fields⟩
  · refine ⟨hb ▸ rfl, ?_⟩
    cases p with
    | none =>
      obtain ⟨number, outcome, margin, granted, after⟩ := settleGroup_fields (b := b) (k := 2) none (by rw [hb]; rfl)
      exact ⟨byteAt_of_uFlag (f := false) (by rw [hb]; rfl), byteAt_of_u8Opt (o := none) (by rw [hb]; rfl), number, outcome,
        margin, granted, after, byteAt_of_flagOpt (o := none) (by rw [hb]; rfl)⟩
    | some q =>
      obtain ⟨number, outcome, margin, granted, after⟩ :=
        settleGroup_fields (b := b) (k := 2) (some q.settle) (by rw [hb]; rfl)
      exact ⟨byteAt_of_uFlag (f := true) (by rw [hb]; rfl), byteAt_of_u8 (by rw [hb]; rfl), number, outcome, margin, granted,
        after, byteAt_of_uFlag (by rw [hb]; rfl)⟩
  · subst hb
    exact ⟨rfl, byteAt_of_u8 rfl, byteAt_of_code rfl (by split <;> decide),
      byteAt_of_code rfl (announcedPortCode_le _), wordAt_of_u16 rfl rfl, wordAt_of_u16Opt (o := p.floor) rfl rfl,
      byteAt_of_uFlag rfl, wordAt_of_u16 rfl rfl, byteAt_of_u8Opt (o := p.profile) rfl, byteAt_of_flagOpt (o := p.digestMatch) rfl⟩
  · subst hb
    exact ⟨rfl, byteAt_of_u8 rfl, byteAt_of_u8 rfl, wordAt_of_u16 rfl rfl,
      byteAt_of_code rfl (by split <;> decide), byteAt_of_uFlag rfl⟩
  · subst hb
    exact ⟨s.captureRecord_length, byteAt_of_code rfl s.runByte_le,
      byteAt_of_code rfl (by split <;> decide), byteAt_of_code rfl (by split <;> decide),
      byteAt_of_u8 rfl, byteAt_of_u8Opt (o := s.ltx.capture.index) rfl, fun k hk => s.captureRecord_slot hk⟩

end Sys2Proof.Machine
end

section
/-! ## The records of a peer (O25, O26)

A record of a peer changes the table, the list, the reference station and the confirmed mark; the two alarms of an ANNOUNCE read none
of them, so that they may be taken to fire first. -/

namespace Sys2Proof.Machine

/-! ### The row of R53 -/

theorem headOfFrame_of_peer {own x : Nat} {r : FrameRecord} {mm : Bool} {d : Decoded} (ho : r.own = false)
    (hs : r.sender = some x) (hc : r.content = .good mm d) (hd : d ≠ .check) :
    headOfFrame own r = headOfPeer own x mm d := by
  simp only [headOfFrame, hc, if_neg hd, ho, hs]
  rfl

namespace State

variable {s : State}

theorem exec_takeAnnounce {x : Nat} {mm : Bool} {f : AnnounceFields} (h : s.head = .peerAnnounce x mm f) :
    exec .takeAnnounce s = .next ((s.dropHead.peerAnnounce x mm f).confirm mm).endOfCeEvent := by
  change execTakeAnnounce s = _
  rw [execTakeAnnounce, h]

theorem exec_takeIntent {x : Nat} {mm : Bool} {f : IntentFields} (h : s.head = .peerIntent x mm f) :
    exec .takeIntent s = .next ((s.dropHead.peerIntent x mm f).confirm mm).endOfCeEvent := by
  change execTakeIntent s = _
  rw [execTakeIntent, h]

theorem exec_takeSettle {x : Nat} {mm : Bool} {f : SettleFields} (h : s.head = .peerSettle x mm f) :
    exec .takeSettle s = .next ((s.dropHead.peerSettle x mm f).confirm mm).endOfCeEvent := by
  change execTakeSettle s = _
  rw [execTakeSettle, h]

theorem exec_takeLeave {x : Nat} {mm : Bool} (h : s.head = .peerLeave x mm) :
    exec .takeLeave s = .next ((s.dropHead.peerLeave x mm).confirm mm).endOfCeEvent := by
  change execTakeLeave s = _
  rw [execTakeLeave, h]

end State

namespace State

variable (s : State)

/-! ### The parts of R54 as changes of one unit -/

theorem unrefreshIf_eq (mm : Bool) :
    s.unrefreshIf mm = s.setPeers (if mm then unrefreshPeers s.view.peers else s.view.peers) := by
  cases mm <;> rfl

/-- R85. -/
theorem confirm_eq (mm : Bool) :
    s.confirm mm = s.setOwn { s.own with confirmed := s.own.confirmed || (s.own.intentState == .window && !mm) } := by
  unfold confirm
  split
  · rename_i h
    simp [h]
  · rename_i h
    have stays : (s.own.intentState == .window && !mm) = false := by simpa using h
    rw [stays, Bool.or_false]
    rfl

theorem checkDigest_eq (f : AnnounceFields) :
    s.checkDigest f = if s.lport.digest = some f.digest then s else fire .configMismatch s := by
  simp only [checkDigest, digestMatches, beq_iff_eq]

/-! ### An alarm fires beside the taking of a record -/

theorem fire_setRsq_setView (k : AlarmKind) (q : Rsq) (v : View) :
    fire k ((s.setRsq q).setView v) = ((fire k s).setRsq q).setView v := by
  unfold fire
  by_cases hk : holdsKind s.au.flags k = true
  · rw [if_pos hk, if_pos (by exact hk)]
  · rw [if_neg hk, if_neg (by exact hk)]
    by_cases hm : holdsKind s.au.forceMask k = true
    · rw [if_pos hm, if_pos (by exact hm)]
      rfl
    · rw [if_neg hm, if_neg (by exact hm)]
      rfl

theorem checkDigest_setRsq_setView (f : AnnounceFields) (q : Rsq) (v : View) :
    ((s.setRsq q).setView v).checkDigest f = ((s.checkDigest f).setRsq q).setView v := by
  rw [checkDigest, fire_setRsq_setView]
  exact (apply_ite (fun t => (setRsq t q).setView v) _ _ _).symm

theorem checkProfile_setRsq_setView (f : AnnounceFields) (q : Rsq) (v : View) :
    ((s.setRsq q).setView v).checkProfile f = ((s.checkProfile f).setRsq q).setView v := by
  rw [checkProfile, fire_setRsq_setView]
  exact (apply_ite (fun t => (setRsq t q).setView v) _ _ _).symm

/-! ### A record of a peer, taken from the head -/

/-- The table after steps 1 to 4 of R54 for a kind other than LEAVE. -/
theorem updatePeer_of_taken (mm : Bool) (x : Nat) (apply : Peer → Peer) {ps : List Peer}
    (hp : ps = if mm then unrefreshPeers s.view.peers else s.view.peers) :
    (s.dropHead.unrefreshIf mm).updatePeer x apply =
      (s.setRsq s.rsq.removeHead).setView { s.view with peers := putPeer (apply (heardPeer x ps)) ps } := by
  rw [unrefreshIf_eq, hp]
  rfl

theorem peerAnnounce_of_taken (mm : Bool) (x : Nat) (f : AnnounceFields) {ps qs : List Peer}
    (hp : ps = if mm then unrefreshPeers s.view.peers else s.view.peers)
    (hq : qs = putPeer (s.applyAnnounce f (heardPeer x ps)) ps) :
    s.dropHead.peerAnnounce x mm f = (((s.checkDigest f).checkProfile f).setRsq s.rsq.removeHead).setView
      { s.view with
        peers := qs, intents := reconcile x f.openIntent s.view.intents, reference := referenceOf s.ownId qs } := by
  have ownId : ((s.checkDigest f).checkProfile f).ownId = s.ownId := by simp [State.ownId, readConfig]
  rw [peerAnnounce, s.updatePeer_of_taken mm x _ hp, checkDigest_setRsq_setView, checkProfile_setRsq_setView, ← ownId, hq]
  rfl

theorem peerIntent_of_taken (mm : Bool) (x : Nat) (f : IntentFields) {ps qs : List Peer}
    (hp : ps = if mm then unrefreshPeers s.view.peers else s.view.peers)
    (hq : qs = putPeer { heardPeer x ps with committed := f.committedBefore } ps) :
    s.dropHead.peerIntent x mm f = (s.setRsq s.rsq.removeHead).setView
      { s.view with
        peers := qs, reference := referenceOf s.ownId qs
        intents := removeEntry x s.view.intents ++ [peerEntry x f.number f.delta .intent] } := by
  rw [peerIntent, s.updatePeer_of_taken mm x _ hp, hq]
  rfl

theorem peerSettle_of_taken (mm : Bool) (x : Nat) (f : SettleFields) {ps qs : List Peer}
    (hp : ps = if mm then unrefreshPeers s.view.peers else s.view.peers)
    (hq : qs = putPeer { heardPeer x ps with committed := f.committedAfter } ps) :
    s.dropHead.peerSettle x mm f = (s.setRsq s.rsq.removeHead).setView
      { s.view with
        peers := qs, reference := referenceOf s.ownId qs
        intents := if settleMatches x f.number s.view.intents then removeEntry x s.view.intents else s.view.intents
        lastSettlement := some { sender := x, settle := f, matched := settleMatches x f.number s.view.intents } } := by
  rw [peerSettle, s.updatePeer_of_taken mm x _ hp, hq]
  rfl

theorem peerLeave_of_taken (mm : Bool) (x : Nat) {ps : List Peer}
    (hp : ps = if mm then unrefreshPeers s.view.peers else s.view.peers) :
    s.dropHead.peerLeave x mm = (s.setRsq s.rsq.removeHead).setView
      { s.view with
        peers := removePeer x ps, intents := removeEntry x s.view.intents, reference := referenceOf s.ownId (removePeer x ps) } := by
  rw [peerLeave, unrefreshIf_eq, hp]
  rfl

end State

theorem settleMatches_eq_true_iff (x n : Nat) (es : List Entry) :
    settleMatches x n es = true ↔ ∃ e, findEntry x es = some e ∧ e.number = n := by
  unfold settleMatches
  cases findEntry x es with
  | none => simp
  | some e => simp

/-- Settles O25: the two alarms fire in the state before the record, and the rest changes the view. -/
theorem takePeerAnnounce : Obligations.TakePeerAnnounce := by
  intro s f1 f2 r rest x mm f ps qs ha hq ho hs hx hc hps hqs h1 h2
  have head : s.head = .peerAnnounce x mm f :=
    ((State.head_of_frame ha hq).trans (headOfFrame_of_peer ho hs hc (by simp))).trans (if_neg hx)
  have alarms : (s.checkDigest f).checkProfile f = f2 := by
    have pfu : f1.pfu = s.pfu := by rw [h1]; split <;> simp
    have period : f1.period = s.period := by rw [h1]; split <;> simp [State.period, State.readConfig]
    rw [h2, ← pfu, ← period, State.checkDigest_eq, ← h1]
    rfl
  have own : f2.own = s.own := by rw [← alarms]; simp
  rw [State.exec_takeAnnounce head, s.peerAnnounce_of_taken mm x f hps hqs, alarms, State.confirm_eq]
  simp only [State.setView_own, State.setRsq_own, own]
  rfl

/-- Settles O26: each kind by the change of the view that it brings. -/
theorem takePeerIntentSettleLeave : Obligations.TakePeerIntentSettleLeave := by
  intro s r rest x mm d ps own ha hq ho hs hx hc hps hown
  have head (hd : d ≠ .check) : s.head = headOfPeer s.ownId x mm d :=
    (State.head_of_frame ha hq).trans (headOfFrame_of_peer ho hs hc hd)
  refine ⟨fun f qs hd hqs => ?_, fun f qs hd hqs => ?_, fun hd => ?_⟩
  · subst hd
    rw [State.exec_takeIntent ((head (by simp)).trans (if_neg hx)), s.peerIntent_of_taken mm x f hps hqs, State.confirm_eq, hown]
    rfl
  · subst hd
    have settled := State.exec_takeSettle ((head (by simp)).trans (if_neg hx))
    rw [s.peerSettle_of_taken mm x f hps hqs, State.confirm_eq] at settled
    refine ⟨fun found => ?_, fun unmatched => ?_⟩
    · rw [settled, (settleMatches_eq_true_iff ..).2 found, hown]
      rfl
    · have other : settleMatches x f.number s.view.intents = false :=
        Bool.eq_false_iff.2 fun h => by
          obtain ⟨e, he, hn⟩ := (settleMatches_eq_true_iff ..).1 h
          exact unmatched e he hn
      rw [settled, other, hown]
      rfl
  · subst hd
    rw [State.exec_takeLeave ((head (by simp)).trans (if_neg hx)), s.peerLeave_of_taken mm x hps, State.confirm_eq, hown]
    rfl

end Sys2Proof.Machine
end

section
/-! ## The own records (O27) -/

namespace Sys2Proof.Machine

/-- A GOOD CHECK apart, an own record is taken as such, whatever its status (R53). -/
theorem headOfFrame_of_own {own : Nat} {r : FrameRecord} (ho : r.own = true) (hc : ∀ mm, r.content ≠ .good mm .check) :
    headOfFrame own r = .own r.content := by
  unfold headOfFrame
  split
  · rename_i mm d good
    rw [if_neg (by rintro rfl; exact hc mm good), if_pos ho]
  · exact if_pos ho
  · exact if_pos ho
  · exact if_pos ho
  · exact if_pos ho
  · exact if_pos ho

namespace State

variable {s : State} {mm : Bool} {d : Decoded}

theorem exec_takeOwnRecord {content : Content} (h : s.head = .own content) :
    exec .takeOwnRecord s = .next (s.dropHead.ownRecord content).endOfCeEvent := by
  change execTakeOwnRecord s = _
  rw [execTakeOwnRecord, h]

/-! ### What the record is (R53, R63, R66, R83) -/

theorem ownRecord_of_leaving (h : s.own.attach = .leaving) (content : Content) : s.ownRecord content = s := if_pos h

theorem ownRecord_of_good (h : s.own.attach ≠ .leaving) : s.ownRecord (.good mm d) = s.ownGood mm d := if_neg h

theorem ownRecord_of_fragment (h : s.own.attach ≠ .leaving) : s.ownRecord .fragment = s.openingDoubt := if_neg h

theorem ownRecord_of_error {content : Content} (h : s.own.attach ≠ .leaving)
    (hc : content = .crcError ∨ content = .symbolError ∨ content = .tooLong ∨ content = .formatError) :
    s.ownRecord content = s.unrefresh.openingDoubt := by
  rcases hc with rfl | rfl | rfl | rfl <;> exact if_neg h

/-! ### A GOOD own record (R66, R82) -/

/-- The intent in OPENING is read back. -/
theorem ownGood_of_readback {f c : IntentFields} (ho : s.own.intentState = .opening) (hc : s.own.current = some c)
    (hn : c.number = f.number) : s.ownGood mm (.intent f) = (s.unrefreshIf mm).takeReadback :=
  if_pos ⟨by rw [unrefreshIf_own, ho], by simp [hc, hn]⟩

/-- Every other GOOD own record only unrefreshes when it must. -/
theorem ownGood_of_other (h : ∀ f c, d = .intent f → s.own.current = some c → s.own.intentState = .opening →
    c.number ≠ f.number) : s.ownGood mm d = s.unrefreshIf mm := by
  unfold ownGood
  split
  · rename_i f
    refine if_neg fun ⟨ho, hr⟩ => ?_
    rw [unrefreshIf_own] at ho hr
    obtain ⟨c, hc, hn⟩ := Option.any_eq_true _ _ |>.1 hr
    exact h f c rfl hc ho (by simpa using hn)
  · rfl
  · rfl
  · rfl
  · rfl

theorem takeReadback_of_withdrawn (h : s.own.withdrawMark = true) : s.takeReadback = s.resolve .withdrawn 0 none := if_pos h

/-- The own entry goes to the end of the list, and the hold window begins (R82). -/
theorem takeReadback_of_kept (h : s.own.withdrawMark = false) {c : IntentFields} (hc : s.own.current = some c) :
    s.takeReadback = { s with
      view := { s.view with intents := s.view.intents ++
        [{ station := s.ownId, number := c.number, delta := c.delta, origin := .intent, own := true }] }
      own := { s.own with
        hold := some s.holdWindow, confirmed := false, sentMark := false, doubtMark := false, intentState := .window } } := by
  rw [takeReadback, if_neg (by simp [h]), currentIntent, hc]
  rfl

end State

/-- Settles O27: the attach state first, then the status of the record, then the state of the intent. -/
theorem takeOwnRecord : Obligations.TakeOwnRecord := by
  intro s u v r rest ha hq ho hu hv
  obtain rfl : u = s.dropHead := hu
  obtain rfl : v = s.dropHead.unrefresh := hv
  have taken (hc : ∀ mm, r.content ≠ .good mm .check) :
      exec .takeOwnRecord s = .next (s.dropHead.ownRecord r.content).endOfCeEvent :=
    State.exec_takeOwnRecord ((State.head_of_frame ha hq).trans (headOfFrame_of_own ho hc))
  refine ⟨fun hl hc => ?_, fun mm d hl hg hd other => ?_, fun mm f c w hl hg hi hcur hn hw => ?_, fun w hl hc => ?_⟩
  · rw [taken hc, State.ownRecord_of_leaving (s := s.dropHead) hl]
  · rw [taken (by simp [hg, hd]), hg, State.ownRecord_of_good (s := s.dropHead) hl,
      State.ownGood_of_other (s := s.dropHead) other]
    rfl
  · obtain rfl : w = s.dropHead.unrefreshIf mm := hw
    rw [taken (by simp [hg]), hg, State.ownRecord_of_good (s := s.dropHead) hl,
      State.ownGood_of_readback (s := s.dropHead) hi hcur hn]
    refine ⟨fun hm => ?_, fun hm => ?_⟩
    · rw [State.takeReadback_of_withdrawn (by simpa using hm)]
    · rw [State.takeReadback_of_kept (by simpa using hm) (by simpa using hcur)]
      cases mm <;> rfl
  · have doubt : exec .takeOwnRecord s = .next w.openingDoubt.endOfCeEvent ∧ w.own = s.own := by
      rcases hc with ⟨hc, rfl⟩ | ⟨hc, rfl⟩
      · rw [taken (by simp [hc]), hc, State.ownRecord_of_fragment (s := s.dropHead) hl]
        exact ⟨rfl, rfl⟩
      · rw [taken (by rcases hc with hc | hc | hc | hc <;> simp [hc]), State.ownRecord_of_error (s := s.dropHead) hl hc]
        exact ⟨rfl, rfl⟩
    obtain ⟨doubted, own⟩ := doubt
    rw [doubted, ← own]
    refine ⟨fun hi => ?_, fun hi hm => ?_, fun hi hm => ?_⟩
    · rw [State.openingDoubt_of_other hi]
    · rw [State.openingDoubt_before_sent hi hm]
      rfl
    · rw [State.openingDoubt_after_sent hi hm]

end Sys2Proof.Machine
end

section
/-! ## The expiries of the view and of the claim (O29) -/

namespace Sys2Proof.Machine

namespace State

variable {s : State}

theorem exec_peerLost {x : Nat} {p : Peer} (found : findPeer x s.view.peers = some p) (due : s.peerLostDue p = true) :
    exec (.peerLost x) s = .next (s.loseRecord p).endOfCeEvent := by
  change execPeerLost x s = _
  simp only [execPeerLost, found, if_pos due]

theorem exec_peerForgotten {x : Nat} {p : Peer} (found : findPeer x s.view.peers = some p)
    (due : s.peerForgottenDue p = true) : exec (.peerForgotten x) s = .next (s.forgetRecord x).endOfCeEvent := by
  change execPeerForgotten x s = _
  simp only [execPeerForgotten, found, if_pos due]

theorem duplicateDue_iff : s.duplicateDue = true ↔ s.view.duplicate = some 0 := expired_eq_true_iff _

end State

/-- Settles O29: each expiry is due, and does what its operation says. -/
theorem viewAndClaimTimers : Obligations.ViewAndClaimTimers := by
  refine ⟨⟨fun s x p qs found live quiet hq => ?_, fun s x p found lost quiet => ?_, fun s h => ?_⟩,
    fun s hi hr => ?_, fun s ha hl => ?_⟩
  · obtain ⟨-, rfl⟩ := mem_of_findPeer found
    rw [State.exec_peerLost found ((s.peerLostDue_iff p).2 ⟨live, quiet⟩), hq]
    rfl
  · rw [State.exec_peerForgotten found ((s.peerForgottenDue_iff p).2 ⟨lost, quiet⟩)]
    rfl
  · exact if_pos (State.duplicateDue_iff.2 h)
  · exact if_pos (s.retryDue_iff.2 ⟨hi, hr⟩)
  · exact if_pos (s.listenDue_iff.2 ⟨ha, hl⟩)

end Sys2Proof.Machine
end

section
/-! ## The transmit notices that CE takes (O35) -/

namespace Sys2Proof.Machine

namespace State

variable {s : State} {k : FrameKind} {rest : List LtxNotice}

theorem exec_sentNotice (h : s.notices.ltx = .sent k :: rest) :
    exec .sentNotice s = .next (s.takeLtx.takeSent k).endOfCeEvent := by
  change execSentNotice s = _
  simp only [execSentNotice, h]

theorem exec_droppedNotice (h : s.notices.ltx = .dropped k :: rest) :
    exec .droppedNotice s = .next (s.takeLtx.takeDropped k).endOfCeEvent := by
  change execDroppedNotice s = _
  simp only [execDroppedNotice, h]

theorem exec_recalledNotice (h : s.notices.ltx = .recalled :: rest) :
    exec .recalledNotice s = .next s.takeLtx.takeRecalled.endOfCeEvent := by
  change execRecalledNotice s = _
  simp only [execRecalledNotice, h]

/-! ### What a notice finds (R112) -/

theorem openingSent_without_doubt (h : s.own.doubtMark = false) :
    s.openingSent = s.setOwn { s.own with sentMark := true } := if_neg (by simp [h])

theorem openingSent_in_doubt (h : s.own.doubtMark = true) : s.openingSent = s.resolve .withdrawn 0 none := if_pos h

theorem takeSent_intent_of_opening (ha : s.attached = true) (hi : s.own.intentState = .opening) :
    s.takeSent .intent = s.openingSent := if_pos (by simp [ha, hi])

theorem takeRecalled_of_opening (ha : s.attached = true) (hi : s.own.intentState = .opening) :
    s.takeRecalled = s.endOpening := if_pos (by simp [ha, hi])

theorem takeRecalled_of_other (h : s.attached = false ∨ s.own.intentState ≠ .opening) : s.takeRecalled = s :=
  if_neg (by rcases h with h | h <;> simp [h])

theorem takeDropped_intent (s : State) : s.takeDropped .intent = s.takeRecalled := rfl

theorem takeSent_settle_of_settling (ha : s.attached = true) (hi : s.own.intentState = .settling) :
    s.takeSent .settle = s.endSettling := if_pos (by simp [ha, hi])

theorem takeDropped_settle (s : State) : s.takeDropped .settle = s.takeSent .settle := rfl

theorem endSettling_of_granted {r : SettleFields} (hr : s.own.resolution = some r) (hg : r.outcome = .granted) :
    s.endSettling = s.setOwn { s.own with current := none, intentState := .idle } :=
  if_pos (by simp [lastGranted, hr, hg])

theorem endSettling_of_other {r : SettleFields} (hr : s.own.resolution = some r) (hg : r.outcome ≠ .granted) :
    s.endSettling = s.setOwn { s.own with current := none, intentState := .retryWait, retry := some s.period } :=
  if_neg (by simp [lastGranted, hr, hg])

/-- No rule of R112 applies to a notice of this kind. -/
def NoticeIdle (s : State) (k : FrameKind) : Prop :=
  k = .announce ∨ k = .check ∨ (k = .intent ∧ (s.attached = false ∨ s.own.intentState ≠ .opening)) ∨
    (k = .settle ∧ (s.attached = false ∨ s.own.intentState ≠ .settling)) ∨ (k = .leave ∧ s.own.attach ≠ .leaving)

theorem takeSent_of_idle (h : s.NoticeIdle k) : s.takeSent k = s := by
  rcases h with rfl | rfl | ⟨rfl, h⟩ | ⟨rfl, h⟩ | ⟨rfl, h⟩
  · rfl
  · rfl
  · exact if_neg (by rcases h with h | h <;> simp [h])
  · exact if_neg (by rcases h with h | h <;> simp [h])
  · exact if_neg h

theorem takeDropped_of_idle (h : s.NoticeIdle k) : s.takeDropped k = s := by
  rcases h with rfl | rfl | ⟨rfl, h⟩ | ⟨rfl, h⟩ | ⟨rfl, h⟩
  · rfl
  · rfl
  · exact takeRecalled_of_other h
  · exact takeSent_of_idle (.inr (.inr (.inr (.inl ⟨rfl, h⟩))))
  · exact if_neg h

end State

/-- Settles O35: the kind of the notice, and the intent state that it finds. -/
theorem transmitNotices : Obligations.TransmitNotices := by
  rintro s u n rest hn hu
  rw [← State.takeLtx_of_cons hn] at hu
  subst hu
  refine ⟨?_, ?_, ?_, ?_, ?_⟩
  · rintro rfl ha hi
    rw [State.exec_sentNotice hn, State.takeSent_intent_of_opening (by exact ha) (by exact hi)]
    refine ⟨fun hd => ?_, fun hd => ?_⟩
    · rw [State.openingSent_without_doubt (by exact hd)]
      rfl
    · rw [State.openingSent_in_doubt (by exact hd)]
  · intro c hc ha hi
    have ends : exec c s = .next s.takeLtx.takeRecalled.endOfCeEvent := by
      rcases hc with ⟨rfl, rfl⟩ | ⟨rfl, rfl⟩
      · rw [State.exec_droppedNotice hn, State.takeDropped_intent]
      · exact State.exec_recalledNotice hn
    rw [ends, State.takeRecalled_of_opening (by exact ha) (by exact hi)]
    rfl
  · intro c r hc ha hi hr
    have ends : exec c s = .next (s.takeLtx.takeSent .settle).endOfCeEvent := by
      rcases hc with ⟨rfl, rfl⟩ | ⟨rfl, rfl⟩
      · exact State.exec_sentNotice hn
      · rw [State.exec_droppedNotice hn, State.takeDropped_settle]
    rw [ends, State.takeSent_settle_of_settling (by exact ha) (by exact hi)]
    refine ⟨fun hg => ?_, fun hg => ?_⟩
    · rw [State.endSettling_of_granted (by exact hr) hg]
      rfl
    · rw [State.endSettling_of_other (by exact hr) hg]
      rfl
  · intro c k hc hk
    have idle : s.takeLtx.NoticeIdle k := hk
    rcases hc with ⟨rfl, rfl⟩ | ⟨rfl, rfl⟩
    · rw [State.exec_sentNotice hn, State.takeSent_of_idle idle]
    · rw [State.exec_droppedNotice hn, State.takeDropped_of_idle idle]
  · rintro rfl h
    rw [State.exec_recalledNotice hn, State.takeRecalled_of_other (by exact h)]

end Sys2Proof.Machine
end

section
/-! ## Resolutions, withdrawal causes, and the notices that bring one (O32) -/

namespace Sys2Proof.Machine

namespace State

variable {s : State}

theorem currentIntent_of_some {f : IntentFields} (h : s.own.current = some f) : s.currentIntent = f := by
  rw [currentIntent, h, Option.getD_some]

/-- R92: the steps of a resolution, written out. -/
theorem resolve_of_current {f : IntentFields} (h : s.own.current = some f) (o : IntentOutcome) (g : Nat)
    (m : Option MarginClass) :
    s.resolve o g m = State.request { s with
      view := { s.view with intents := s.view.intents.filter (fun e => !e.own) }
      own := { s.own with
        hold := none, confirmed := false, sentMark := false, doubtMark := false, withdrawMark := false
        committed := s.own.committed + g
        resolution := some { number := f.number, outcome := o, margin := m, granted := g, committedAfter := s.own.committed + g }
        lastOutcome := { outcome := some o, granted := g, margin := m }
        intentState := .settling } } .settle := by
  rw [resolve, resolutionOf, currentIntent_of_some h]
  rfl

/-! ### A withdrawal cause in each intent state (R114) -/

theorem withdrawalCause_of_other
    (h : s.own.intentState = .idle ∨ s.own.intentState = .retryWait ∨ s.own.intentState = .settling) :
    s.withdrawalCause = s := by
  rcases h with h | h | h <;> rw [withdrawalCause, h]

theorem withdrawalCause_of_marked (ho : s.own.intentState = .opening) (hm : s.own.withdrawMark = true) :
    s.withdrawalCause = s := by
  rw [withdrawalCause, ho]
  exact if_pos hm

theorem withdrawalCause_of_unmarked (ho : s.own.intentState = .opening) (hm : s.own.withdrawMark = false) :
    s.withdrawalCause = (s.setOwn { s.own with withdrawMark := true }).recallIntent := by
  rw [withdrawalCause, ho]
  exact if_neg (by simp [hm])

theorem withdrawalCause_of_window (h : s.own.intentState = .window) : s.withdrawalCause = s.resolve .withdrawn 0 none := by
  rw [withdrawalCause, h]
  rfl

/-! ### The notices of SLU and AU at the front of their queues -/

theorem takeSlu_of_cons {n : SluNotice} {rest : List SluNotice} (h : s.notices.slu = n :: rest) :
    s.takeSlu = { s with notices := { s.notices with slu := rest } } := by
  rw [takeSlu, h]
  rfl

theorem takeAu_of_cons {n : AuNotice} {rest : List AuNotice} (h : s.notices.au = n :: rest) :
    s.takeAu = { s with notices := { s.notices with au := rest } } := by
  rw [takeAu, h]
  rfl

theorem exec_shedStartNotice {rest : List SluNotice} (h : s.notices.slu = .shedStart :: rest) :
    exec .shedStartNotice s = .next s.takeSlu.withdrawalCause.endOfCeEvent := by
  change execShedStartNotice s = _
  simp only [execShedStartNotice, h]

theorem exec_shedEndNotice {rest : List SluNotice} (h : s.notices.slu = .shedEnd :: rest) :
    exec .shedEndNotice s = if s.assertedDue then .next s else .next s.takeSlu.endOfCeEvent := by
  change execShedEndNotice s = _
  simp only [execShedEndNotice, h]

theorem exec_forceAlarmNotice {k : AlarmKind} {rest : List AuNotice} (h : s.notices.au = .forceAlarm k :: rest) :
    exec .forceAlarmNotice s = .next s.takeAu.withdrawalCause.endOfCeEvent := by
  change execForceAlarmNotice s = _
  simp only [execForceAlarmNotice, h]

theorem exec_clearedNotice {rest : List AuNotice} (h : s.notices.au = .cleared :: rest) :
    exec .clearedNotice s = .next s.takeAu.endOfCeEvent := by
  change execClearedNotice s = _
  simp only [execClearedNotice, h]

theorem exec_checkFailed {rest : List LtxNotice} (h : s.notices.ltx = .checkFailed :: rest) :
    exec .checkFailed s = .next s.takeLtx.endOfCeEvent := by
  change execCheckFailed s = _
  simp only [execCheckFailed, h]

/-- No observed assertion is due (R140, R141). -/
theorem not_assertedDue (h : s.slu.observed = .asserted ∨ s.pins.shd = .recessive ∨
    ∀ n, s.slu.filter = some n → n < 2 * usTicks) : ¬ s.assertedDue = true := by
  rw [s.assertedDue_iff]
  rintro ⟨dominant, released, n, hn, lasted⟩
  rcases h with h | h | h
  · rw [released] at h
    cases h
  · rw [dominant] at h
    cases h
  · exact absurd (h n hn) (Nat.not_lt.2 lasted)

end State

/-- Settles O32: the operations by their cases, and each notice by the operation it brings. -/
theorem resolutionsAndWithdrawal : Obligations.ResolutionsAndWithdrawal := by
  refine ⟨fun s f o g m hf => State.resolve_of_current hf o g m, fun s => ⟨?_, ?_, ?_, ?_⟩, fun s rest => ⟨?_, ?_, ?_⟩,
    fun s k rest => ⟨?_, ?_⟩, ?_⟩
  · exact State.withdrawalCause_of_other
  · exact State.withdrawalCause_of_marked
  · exact State.withdrawalCause_of_unmarked
  · exact State.withdrawalCause_of_window
  · intro h
    rw [State.exec_shedStartNotice h, State.takeSlu_of_cons h]
  · intro h quiet
    rw [State.exec_shedEndNotice h, State.takeSlu_of_cons h]
    exact if_neg (State.not_assertedDue quiet)
  · intro n h released dominant hn lasted
    rw [State.exec_shedEndNotice h]
    exact if_pos (s.assertedDue_iff.2 ⟨dominant, released, n, hn, lasted⟩)
  · intro h
    rw [State.exec_forceAlarmNotice h, State.takeAu_of_cons h]
  · intro h
    rw [State.exec_clearedNotice h, State.takeAu_of_cons h]
  · intro s rest h
    rw [State.exec_checkFailed h, State.takeLtx_of_cons h]

end Sys2Proof.Machine
end

section
/-! ## The decision at the expiry of the hold timer (O31) -/

namespace Sys2Proof.Machine

/-! ### The entries behind the own one (R75, R87) -/

/-- A list with a pending sum holds the own entry: the first own one splits it. -/
theorem exists_own_entry_of_pendingAhead {es : List Entry} {a : Nat} (h : pendingAhead es = some a) :
    ∃ front e back, es = front ++ e :: back ∧ (∀ y ∈ front, y.own = false) ∧ e.own = true := by
  have present : es.any (·.own) = true := by
    by_contra absent
    rw [pendingAhead, if_neg absent] at h
    cases h
  obtain ⟨own, mem, isOwn⟩ := List.any_eq_true.1 present
  obtain ⟨e, front, back, hf, he, hes, -⟩ := List.exists_of_eraseP mem isOwn
  exact ⟨front, e, back, hes, fun y hy => by simpa using hf y hy, he⟩

/-- What stands behind the first own entry is what R87 asks about. -/
theorem learnedBehind_of_own {front back : List Entry} {e : Entry} (hf : ∀ x ∈ front, x.own = false) (he : e.own = true) :
    learnedBehind (front ++ e :: back) = back.any (fun x => x.origin == .learned) := by
  have behind : (front ++ e :: back).dropWhile (fun x => !x.own) = e :: back := by
    rw [List.dropWhile_append_of_pos (by simpa using hf)]
    simp [he]
  rw [learnedBehind, behind]
  rfl

theorem learnedBehind_eq_true_of_split {es : List Entry}
    (h : ∃ front e back x, es = front ++ e :: back ∧ (∀ y ∈ front, y.own = false) ∧ e.own = true ∧ x ∈ back ∧
      x.origin = .learned) : learnedBehind es = true := by
  obtain ⟨front, e, back, x, rfl, hf, he, hx, learned⟩ := h
  rw [learnedBehind_of_own hf he]
  exact List.any_eq_true.2 ⟨x, hx, by simp [learned]⟩

theorem learnedBehind_eq_false_of_split {es : List Entry} {a : Nat} (ha : pendingAhead es = some a)
    (h : ∀ front e back x, es = front ++ e :: back → (∀ y ∈ front, y.own = false) → e.own = true → x ∈ back →
      x.origin = .intent) : learnedBehind es = false := by
  obtain ⟨front, e, back, hes, hf, he⟩ := exists_own_entry_of_pendingAhead ha
  rw [hes, learnedBehind_of_own hf he, List.any_eq_false]
  intro x hx
  simp [h front e back x hes hf he hx]

/-! ### The margin classes (R89, R90) -/

theorem refusalMargin_of_negative {h : Int} (hn : h < 0) : refusalMargin h = .negative := if_pos hn

theorem refusalMargin_of_zero {h : Int} (hz : h = 0) : refusalMargin h = .zero := by
  subst hz
  rfl

theorem refusalMargin_of_positive {h : Int} (hp : 0 < h) : refusalMargin h = .positive := by
  rw [refusalMargin, if_neg hp.not_gt, if_neg hp.ne']

theorem grantMargin_sub (h : Int) (g : Nat) : grantMargin (h - g) = if h = g then .zero else .positive := by
  rw [grantMargin]
  exact if_congr sub_eq_zero rfl rfl

namespace State

variable {s : State}

/-! ### The conditions, and the four resolutions (R87) -/

theorem decidesWithdrawn_eq_true_iff : s.decidesWithdrawn = true ↔
    s.shedInEffect = true ∨ s.own.isolated = true ∨ s.au.flags &&& s.au.forceMask ≠ 0 := by
  simp [decidesWithdrawn, forceSet, or_assoc]

theorem anyLive_eq_true_iff : s.anyLive = true ↔ ∃ p ∈ s.view.peers, p.presence = .live := by
  simp [anyLive, Peer.isLive]

theorem decidesDeferred_eq_true_iff : s.decidesDeferred = true ↔
    s.certain = false ∨ (s.own.confirmed = false ∧ ∃ p ∈ s.view.peers, p.presence = .live) ∨
      learnedBehind s.view.intents = true := by
  simp only [decidesDeferred, Bool.or_eq_true, Bool.and_eq_true, Bool.not_eq_true', anyLive_eq_true_iff, or_assoc]

theorem decidesDeferred_eq_false_of (certain : s.certain = true)
    (confirmed : s.own.confirmed = true ∨ ∀ p ∈ s.view.peers, p.presence = .lost)
    (behind : learnedBehind s.view.intents = false) : s.decidesDeferred = false := by
  rw [decidesDeferred, certain, behind]
  rcases confirmed with confirmed | lost
  · simp [confirmed]
  · simp [anyLive_eq_false_iff.2 lost]

theorem exec_holdWindowExpiry (hi : s.own.intentState = .window) (hh : s.own.hold = some 0) :
    exec .holdWindowExpiry s = .next s.decideIntent.endOfCeEvent :=
  if_pos (s.holdDue_iff.2 ⟨hi, hh⟩)

theorem decideIntent_of_withdrawn (hw : s.decidesWithdrawn = true) : s.decideIntent = s.resolve .withdrawn 0 none := if_pos hw

theorem decideIntent_of_deferred (hw : s.decidesWithdrawn = false) (hd : s.decidesDeferred = true) :
    s.decideIntent = s.resolve .deferred 0 none := by
  rw [decideIntent, hw, hd]
  rfl

theorem decideIntent_of_refused (hw : s.decidesWithdrawn = false) (hd : s.decidesDeferred = false)
    (hlow : s.headroom < (s.currentIntent.deltaMin : Int)) :
    s.decideIntent = s.resolve .refused 0 (some (refusalMargin s.headroom)) := by
  rw [decideIntent, hw, hd]
  exact if_pos hlow

theorem decideIntent_of_granted (hw : s.decidesWithdrawn = false) (hd : s.decidesDeferred = false)
    (hhigh : (s.currentIntent.deltaMin : Int) ≤ s.headroom) : s.decideIntent = s.resolveGranted := by
  rw [decideIntent, hw, hd]
  exact if_neg hhigh.not_gt

theorem headroom_of_pendingAhead {a : Nat} (h : pendingAhead s.view.intents = some a) :
    s.headroom = (s.pfu.budget : Int) - s.viewTotal - a := by
  rw [headroom, h, Option.getD_some]

/-- R90: the smaller of Δ and the headroom. -/
theorem grantOf_eq {g : Nat} (h : (g : Int) = min (s.currentIntent.delta : Int) (max s.headroom 0)) : s.grantOf = g := by
  rw [grantOf]
  omega

/-! ### The grant, and the decrease that may follow it (R103, R117) -/

theorem resolve_target (s : State) (o : IntentOutcome) (g : Nat) (m : Option MarginClass) :
    (s.resolve o g m).own.target = s.own.target := by simp [resolve, setIntents]

theorem resolve_floor (s : State) (o : IntentOutcome) (g : Nat) (m : Option MarginClass) :
    (s.resolve o g m).floor = s.floor := by simp only [floor, readConfig, resolve_lport]

@[simp] theorem becomeMember_committed (s : State) : s.becomeMember.own.committed = s.own.committed := by
  unfold becomeMember
  split <;> rfl

@[simp] theorem becomeMember_target (s : State) : s.becomeMember.own.target = s.own.target := by
  unfold becomeMember
  split <;> rfl

@[simp] theorem becomeMember_floor (s : State) : s.becomeMember.floor = s.floor := by
  unfold becomeMember
  split <;> rfl

theorem becomeMember_resolve (s : State) (o : IntentOutcome) (g : Nat) (m : Option MarginClass) :
    (s.resolve o g m).becomeMember = if s.own.attach = .joining then
      { s.resolve o g m with own := { (s.resolve o g m).own with attach := .member } } else s.resolve o g m := by
  rw [becomeMember, resolve_attach]
  rfl

/-- What the decrease after a grant reads: the claim with the grant in it, the target and the floor. -/
theorem becomeMember_resolve_claim (s : State) (o : IntentOutcome) (g : Nat) (m : Option MarginClass) :
    (s.resolve o g m).becomeMember.own.committed = s.own.committed + g ∧
      (s.resolve o g m).becomeMember.own.target = s.own.target ∧ (s.resolve o g m).becomeMember.floor = s.floor := by
  rw [becomeMember_committed, becomeMember_target, becomeMember_floor, resolve_committed, resolve_target, resolve_floor]
  exact ⟨rfl, rfl, rfl⟩

theorem settleToTarget_of_le (h : s.own.committed ≤ s.own.target) : s.settleToTarget = s := if_neg h.not_gt

theorem settleToTarget_of_fall (h : s.own.target < s.own.committed) (fall : max s.own.target s.floor < s.own.committed) :
    s.settleToTarget = (s.setOwn { s.own with committed := max s.own.target s.floor }).request .announce :=
  (if_pos h).trans (decrease_of_fall fall)

theorem settleToTarget_of_floor (h : s.own.target < s.own.committed) (same : max s.own.target s.floor = s.own.committed) :
    s.settleToTarget = s :=
  (if_pos h).trans (decrease_of_equal same)

end State

/-- Settles O31: the conditions of R87 in their order, the margin classes of R89 and R90, and the claim that the grant leaves. -/
theorem decisionAtHoldExpiry : Obligations.DecisionAtHoldExpiry := by
  intro s f a h hi hh hf ha hroom
  have room : s.headroom = h := (State.headroom_of_pendingAhead ha).trans hroom.symm
  have intent : s.currentIntent = f := State.currentIntent_of_some hf
  rw [State.exec_holdWindowExpiry hi hh]
  refine ⟨fun withdrawing => ?_, fun shed isolated forced => ?_⟩
  · rw [State.decideIntent_of_withdrawn (State.decidesWithdrawn_eq_true_iff.2 withdrawing)]
  have hw : s.decidesWithdrawn = false := State.decidesWithdrawn_eq_false_iff.2 ⟨shed, isolated, forced⟩
  refine ⟨fun doubt => ?_, fun certain confirmed behind => ?_⟩
  · have hd : s.decidesDeferred = true :=
      State.decidesDeferred_eq_true_iff.2 (doubt.imp_right (Or.imp_right learnedBehind_eq_true_of_split))
    rw [State.decideIntent_of_deferred hw hd]
  have hd : s.decidesDeferred = false :=
    State.decidesDeferred_eq_false_of certain confirmed (learnedBehind_eq_false_of_split ha behind)
  have refused (hlow : h < f.deltaMin) : s.decideIntent = s.resolve .refused 0 (some (refusalMargin h)) := by
    rw [State.decideIntent_of_refused hw hd (by rwa [room, intent]), room]
  refine ⟨fun hlow hn => ?_, fun hlow hz => ?_, fun hlow hp => ?_, fun hhigh g u v hg hu hv => ?_⟩
  · rw [refused hlow, refusalMargin_of_negative hn]
  · rw [refused hlow, refusalMargin_of_zero hz]
  · rw [refused hlow, refusalMargin_of_positive hp]
  have grant : s.grantOf = g := State.grantOf_eq (by rwa [room, intent])
  have member : u.becomeMember = v := by rw [hv, hu, State.becomeMember_resolve]
  have granted : s.decideIntent = v.settleToTarget := by
    rw [State.decideIntent_of_granted hw hd (by rwa [room, intent]), State.resolveGranted, room, grant, grantMargin_sub, ← hu,
      member]
  obtain ⟨claim, target, floor⟩ : v.own.committed = s.own.committed + g ∧ v.own.target = s.own.target ∧ v.floor = s.floor := by
    rw [← member, hu]
    exact s.becomeMember_resolve_claim ..
  rw [granted]
  refine ⟨fun within => ?_, fun above fall => ?_, fun above same => ?_⟩
  · rw [State.settleToTarget_of_le (by rwa [claim, target])]
  · rw [State.settleToTarget_of_fall (by rwa [claim, target]) (by rwa [claim, target, floor]), target, floor]
    rfl
  · rw [State.settleToTarget_of_floor (by rwa [claim, target]) (by rwa [claim, target, floor])]

end Sys2Proof.Machine
end

section
/-! ## The claim rises only by a grant (O33): what the Claim Engine's operations do to the claim

Outside the decision the claim stays, falls to 0, or falls to the floor or to a target below it. That the floor lies no higher than the
claim of a MEMBER is what `ClaimSound` adds. -/

namespace Sys2Proof.Machine

namespace State

variable {s : State}

/-! ### What leaves the claim alone -/

@[simp] theorem endOfCeEvent_committed (s : State) : s.endOfCeEvent.own.committed = s.own.committed :=
  s.endOfCeEvent_claim.1

@[simp] theorem resolveWithdrawn_committed (s : State) : s.resolveWithdrawn.own.committed = s.own.committed := by
  simp [resolveWithdrawn]

@[simp] theorem confirm_committed (s : State) (mm : Bool) : (s.confirm mm).own.committed = s.own.committed := by
  unfold confirm
  split <;> rfl

@[simp] theorem takeReadback_committed (s : State) : s.takeReadback.own.committed = s.own.committed := by
  unfold takeReadback
  split
  · exact s.resolveWithdrawn_committed
  · rfl

@[simp] theorem openingDoubt_committed (s : State) : s.openingDoubt.own.committed = s.own.committed := by
  unfold openingDoubt
  split
  · split
    · exact s.resolveWithdrawn_committed
    · rfl
  · rfl

@[simp] theorem ownGood_committed (s : State) (mm : Bool) (d : Decoded) : (s.ownGood mm d).own.committed = s.own.committed := by
  unfold ownGood
  cases d with
  | intent f =>
    dsimp only
    split <;> simp
  | announce f => simp
  | settle f => simp
  | leave => simp
  | check => simp

@[simp] theorem ownRecord_committed (s : State) (c : Content) : (s.ownRecord c).own.committed = s.own.committed := by
  unfold ownRecord
  split
  · rfl
  · cases c <;> simp

@[simp] theorem openingSent_committed (s : State) : s.openingSent.own.committed = s.own.committed := by
  unfold openingSent
  split
  · exact s.resolveWithdrawn_committed
  · rfl

@[simp] theorem endSettling_committed (s : State) : s.endSettling.own.committed = s.own.committed := by
  unfold endSettling
  split <;> rfl

@[simp] theorem takeRecalled_committed (s : State) : s.takeRecalled.own.committed = s.own.committed := by
  unfold takeRecalled
  split <;> rfl

@[simp] theorem takeIsolationEnd_committed (s : State) : s.takeIsolationEnd.own.committed = s.own.committed := by
  unfold takeIsolationEnd
  split <;> rfl

theorem auNoticesTaken_committed (s : State) (cleared : Word16) :
    (s.auNoticesTaken cleared).own.committed = s.own.committed := by
  refine s.auNoticesTaken_induction cleared (fun t => t.own.committed = s.own.committed) rfl fun t ht n => ?_
  cases n with
  | forceAlarm k => simpa [auNoticeTaken, takeAu] using ht
  | cleared => simpa [auNoticeTaken, takeAu] using ht

/-- What step 3 of R129 reads is as it was before the window was withdrawn. -/
theorem withdrawWindow_claim (s : State) : s.withdrawWindow.own.committed = s.own.committed ∧
    s.withdrawWindow.own.attach = s.own.attach ∧ s.withdrawWindow.floor = s.floor := by
  refine ⟨?_, ?_, by simp only [floor, readConfig, withdrawWindow_lport]⟩
  · unfold withdrawWindow
    split
    · exact s.resolveWithdrawn_committed
    · rfl
  · unfold withdrawWindow
    split
    · exact s.resolve_attach ..
    · rfl

/-! ### What lets the claim fall -/

theorem takeSent_committed_le (s : State) (k : FrameKind) : (s.takeSent k).own.committed ≤ s.own.committed := by
  unfold takeSent
  cases k with
  | intent =>
    dsimp only
    split <;> simp
  | settle =>
    dsimp only
    split <;> simp
  | leave =>
    dsimp only
    split
    · exact Nat.zero_le _
    · exact le_rfl
  | announce => exact le_rfl
  | check => exact le_rfl

theorem takeDropped_committed_le (s : State) (k : FrameKind) : (s.takeDropped k).own.committed ≤ s.own.committed := by
  cases k with
  | intent => exact s.takeRecalled_committed.le
  | settle => exact s.takeSent_committed_le .settle
  | leave => exact s.takeSent_committed_le .leave
  | announce => exact le_rfl
  | check => exact le_rfl

/-- R104: LEAVE gives the whole claim back. -/
theorem takeLeaveRequest_committed (s : State) : s.takeLeaveRequest.own.committed = 0 := rfl

/-- R118: the claim of a MEMBER falls to the floor. -/
theorem takeIsolated_committed_le (held : s.own.attach = .member → s.floor ≤ s.own.committed) :
    s.takeIsolated.own.committed ≤ s.own.committed := by
  by_cases hm : s.own.attach = .member
  · rw [takeIsolated_of_member _ hm, request_own, fire_own]
    exact held hm
  · cases ha : s.attached with
    | false => rw [takeIsolated_of_detached _ ha]
    | true =>
      rw [takeIsolated_of_not_member _ ha hm, fire_own]
      exact s.withdrawalCause_committed.le

/-- R131: the shed scales the claim down, but not below the floor. -/
theorem shedClaim_le_max {b : Nat} (hb : b < s.viewTotal) : s.shedClaim b ≤ max s.floor s.own.committed := by
  refine max_le_max le_rfl ?_
  have ratio : 32768 * b / s.viewTotal ≤ 32768 :=
    Nat.div_le_of_le_mul (by rw [Nat.mul_comm]; exact Nat.mul_le_mul_right _ hb.le)
  calc s.own.committed * (32768 * b / s.viewTotal) / 32768
      ≤ s.own.committed * 32768 / 32768 := Nat.div_le_div_right (Nat.mul_le_mul_left _ ratio)
    _ = s.own.committed := Nat.mul_div_cancel _ (by decide)

/-- The shed brings the claim to the value of R131, in a MEMBER whose view total is above the budget, and nowhere else. -/
theorem proportionalShed_committed (s : State) (b : Nat) : (s.proportionalShed b).own.committed =
    if s.own.attach = .member ∧ b < s.viewTotal then s.shedClaim b else s.own.committed := by
  unfold proportionalShed
  split
  · dsimp only
    split
    · split <;> simp
    · rfl
  · rfl

theorem proportionalShed_committed_le {b : Nat} (held : s.own.attach = .member → s.floor ≤ s.own.committed) :
    (s.proportionalShed b).own.committed ≤ s.own.committed := by
  rw [proportionalShed_committed]
  split
  · rename_i shed
    obtain ⟨member, above⟩ := shed
    exact (shedClaim_le_max above).trans (max_le (held member) le_rfl)
  · exact le_rfl

theorem applyProfileChange_committed_le {b : Nat} (held : s.own.attach = .member → s.floor ≤ s.own.committed) :
    (s.applyProfileChange b).own.committed ≤ s.own.committed := by
  obtain ⟨claim, attach, floor⟩ := s.unrefresh.withdrawWindow_claim
  rw [applyProfileChange, deficitCheck_own]
  refine (proportionalShed_committed_le ?_).trans claim.le
  rw [claim, attach, floor]
  exact held

/-- R116: a target below the claim brings the claim down to it or to the floor. -/
theorem applyTarget_committed_le {target minStep : Nat} (held : s.own.attach = .member → s.floor ≤ s.own.committed) :
    (s.applyTarget target minStep).own.committed ≤ s.own.committed := by
  obtain ⟨lower, claim⟩ := s.withTarget_withdrawalCause target minStep
  by_cases hm : s.own.attach = .member
  · rcases lt_trichotomy target s.own.committed with below | equal | above
    · rw [applyTarget_of_below hm below, decrease_committed, lower]
      exact max_le below.le (held hm)
    · rw [applyTarget_of_equal hm equal, claim]
    · rw [applyTarget_of_above (.inr above)]
      exact le_rfl
  · rw [applyTarget_of_above (.inl hm)]
    exact le_rfl

/-! ### The decision -/

/-- R117: after a grant the claim stands at the target or the floor if it would pass the target. -/
theorem settleToTarget_committed (s : State) : s.settleToTarget.own.committed =
    if s.own.target < s.own.committed then max s.own.target s.floor else s.own.committed := by
  unfold settleToTarget
  split
  · exact s.decrease_committed
  · rfl

theorem resolveGranted_committed (s : State) : s.resolveGranted.own.committed =
    if s.own.target < s.own.committed + s.grantOf then max s.own.target s.floor else s.own.committed + s.grantOf := by
  obtain ⟨claim, target, floor⟩ :=
    s.becomeMember_resolve_claim .granted s.grantOf (some (grantMargin (s.headroom - (s.grantOf : Int))))
  rw [resolveGranted, settleToTarget_committed, claim, target, floor]

theorem decrease_resolution (s : State) : s.decrease.own.resolution = s.own.resolution := by
  unfold decrease
  dsimp only
  split <;> simp

theorem settleToTarget_resolution (s : State) : s.settleToTarget.own.resolution = s.own.resolution := by
  unfold settleToTarget
  split
  · exact s.decrease_resolution
  · rfl

theorem becomeMember_resolution (s : State) : s.becomeMember.own.resolution = s.own.resolution := by
  unfold becomeMember
  split <;> rfl

theorem resolveGranted_resolution (s : State) : s.resolveGranted.own.resolution =
    some (s.resolutionOf .granted s.grantOf (some (grantMargin (s.headroom - (s.grantOf : Int))))) := by
  rw [resolveGranted, settleToTarget_resolution, becomeMember_resolution, resolve_resolution]

/-- The decision raises the claim in one way only: it grants, with a headroom of the least increment at least. -/
theorem decideIntent_claim (s : State) : s.decideIntent.own.committed = s.own.committed ∨
    (s.currentIntent.deltaMin : Int) ≤ s.headroom ∧ s.decideIntent = s.resolveGranted := by
  unfold decideIntent
  split
  · exact .inl s.resolveWithdrawn_committed
  · split
    · exact .inl (s.resolve_committed ..)
    · split
      · exact .inl (s.resolve_committed ..)
      · rename_i high
        exact .inr ⟨not_lt.1 high, rfl⟩

/-- R90: what is granted with a headroom of Δmin at least lies between Δmin and the smaller of Δ and the headroom. -/
theorem grantOf_bounds (least : 1 ≤ s.currentIntent.deltaMin) (order : s.currentIntent.deltaMin ≤ s.currentIntent.delta)
    (room : (s.currentIntent.deltaMin : Int) ≤ s.headroom) :
    s.currentIntent.deltaMin ≤ s.grantOf ∧ s.grantOf ≤ s.currentIntent.delta ∧ (s.grantOf : Int) ≤ s.headroom := by
  unfold grantOf
  omega

end State

end Sys2Proof.Machine
end

section
/-! ## The claim rises only by a grant (O33): every command -/

namespace Sys2Proof.Machine

/-- The own committed claim of `t` is no larger than that of `s`. -/
def NoRise (s t : State) : Prop := t.own.committed ≤ s.own.committed

namespace NoRise

variable {s t : State}

theorem refl (s : State) : NoRise s s := le_refl s.own.committed

theorem of_kept (h : t.own.committed = s.own.committed) : NoRise s t := h.le

theorem of_own (h : t.own = s.own) : NoRise s t := of_kept (congrArg OwnContext.committed h)

theorem of_released (h : t.own.committed = 0) : NoRise s t := h.le.trans (Nat.zero_le _)

theorem settle (h : NoRise s t) : NoRise s t.settle := by rwa [NoRise, State.settle_own]

theorem endOfCeEvent (h : NoRise s t) : NoRise s t.endOfCeEvent := by rwa [NoRise, State.endOfCeEvent_committed]

theorem ite {p : Prop} [Decidable p] {t u : State} (ht : NoRise s t) (hu : NoRise s u) : NoRise s (if p then t else u) := by
  split
  · exact ht
  · exact hu

theorem leads_refl (s : State) : Leads (.next s) (NoRise s) := (leads_next ..).2 (.refl s)

theorem leads_kept (h : t.own.committed = s.own.committed) : Leads (.next t) (NoRise s) := (leads_next ..).2 (of_kept h)

theorem leads_own (h : t.own = s.own) : Leads (.next t) (NoRise s) := (leads_next ..).2 (of_own h)

theorem leads_if {b : Bool} (h : NoRise s t) : Leads (if b then .next t else .next s) (NoRise s) :=
  leads_ite (fun _ => h) (.refl s)

/-- A request whose carrying out raises no claim raises none with its answer. -/
theorem leads_answer (request : Byte) (enough taken inRange : Bool) (carry : State → Carried)
    (carried : NoRise s (carry s.endTransaction).state) :
    Leads (.next (s.answer request enough taken inRange carry)) (NoRise s) :=
  (leads_next ..).2 (s.answer_induction (NoRise s) request enough taken inRange carry (.refl s) (fun _ => .refl s)
    fun _ _ _ _ => carried)

/-! ### The Link Receiver and the Link Transmitter -/

theorem execStartDelimiter (s : State) : Leads (execStartDelimiter s) (NoRise s) := by
  unfold Machine.execStartDelimiter
  split
  · exact leads_refl s
  · rename_i t ht
    have started : t.own = s.own := State.frameStart_own ht
    exact leads_own started

theorem execMalformedStart (s : State) : Leads (execMalformedStart s) (NoRise s) := by
  unfold Machine.execMalformedStart
  split
  · exact leads_refl s
  · rename_i t ht
    exact leads_own ((t.discardFrame_own ..).trans (State.frameStart_own ht))

theorem execViolation (s : State) : Leads (execViolation s) (NoRise s) := by
  unfold Machine.execViolation
  split
  · exact leads_own (s.discardFrame_own ..)
  all_goals exact leads_refl s

theorem execTooLong (s : State) : Leads (execTooLong s) (NoRise s) := by
  unfold Machine.execTooLong
  split
  · split
    · exact leads_own (s.discardFrame_own ..)
    · exact leads_refl s
  all_goals exact leads_refl s

theorem execEndDelimiter (s : State) : Leads (execEndDelimiter s) (NoRise s) := by
  unfold Machine.execEndDelimiter
  split
  · exact leads_own (s.sdlTwoCellsRecessive.frameEnds_own _)
  all_goals exact leads_if (of_own (by simp))

theorem execLineIdle (s : State) : Leads (execLineIdle s) (NoRise s) := by
  unfold Machine.execLineIdle
  split
  · split
    all_goals exact leads_own (by simp)
  · exact leads_refl s

theorem execWholeByte (s : State) (b : Byte) : Leads (execWholeByte b s) (NoRise s) := by
  unfold Machine.execWholeByte
  split
  · split
    · dsimp only
      split
      all_goals exact leads_own rfl
    · exact leads_own (s.discardFrame_own ..)
  all_goals exact leads_refl s

theorem execAttemptStart (s : State) : Leads (execAttemptStart s) (NoRise s) := by
  unfold Machine.execAttemptStart
  split
  · exact leads_refl s
  · exact leads_own rfl

theorem execLostArbitration (s : State) : Leads (execLostArbitration s) (NoRise s) := by
  unfold Machine.execLostArbitration
  split
  · exact leads_refl s
  · exact leads_own (s.loseArbitration_own _)

theorem execTransmitFault (s : State) : Leads (execTransmitFault s) (NoRise s) := by
  unfold Machine.execTransmitFault
  split
  · exact leads_refl s
  · exact (leads_next ..).2 (of_own (s.meetFault_own _)).settle

/-! ### The records -/

theorem execTakeAnnounce (s : State) : Leads (execTakeAnnounce s) (NoRise s) := by
  unfold Machine.execTakeAnnounce
  split
  · exact leads_kept (by simp)
  all_goals exact leads_refl s

theorem execTakeIntent (s : State) : Leads (execTakeIntent s) (NoRise s) := by
  unfold Machine.execTakeIntent
  split
  · exact leads_kept (by simp)
  all_goals exact leads_refl s

theorem execTakeSettle (s : State) : Leads (execTakeSettle s) (NoRise s) := by
  unfold Machine.execTakeSettle
  split
  · exact leads_kept (by simp)
  all_goals exact leads_refl s

theorem execTakeLeave (s : State) : Leads (execTakeLeave s) (NoRise s) := by
  unfold Machine.execTakeLeave
  split
  · exact leads_kept (by simp)
  all_goals exact leads_refl s

theorem execTakeOwnRecord (s : State) : Leads (execTakeOwnRecord s) (NoRise s) := by
  unfold Machine.execTakeOwnRecord
  split
  · exact leads_kept (by simp)
  all_goals exact leads_refl s

theorem execTakeDuplicateRecord (s : State) : Leads (execTakeDuplicateRecord s) (NoRise s) := by
  unfold Machine.execTakeDuplicateRecord
  split
  · exact leads_kept (by simp [State.duplicateRecord_own])
  all_goals exact leads_refl s

theorem execTakeErrorRecord (s : State) : Leads (execTakeErrorRecord s) (NoRise s) := by
  unfold Machine.execTakeErrorRecord
  split
  · exact (leads_next ..).2 (endOfCeEvent (ite (.refl s) (of_own (by simp))))
  all_goals exact leads_refl s

theorem execTakeLossRecord (s : State) : Leads (execTakeLossRecord s) (NoRise s) := by
  unfold Machine.execTakeLossRecord
  split
  · exact leads_kept (by simp)
  all_goals exact leads_refl s

theorem execTakeCheckRecord (s : State) : Leads (execTakeCheckRecord s) (NoRise s) := by
  unfold Machine.execTakeCheckRecord
  split
  · exact leads_kept (by simp)
  all_goals exact leads_refl s

theorem execPeerLost (s : State) (id : Nat) : Leads (execPeerLost id s) (NoRise s) := by
  unfold Machine.execPeerLost
  split
  · exact leads_refl s
  · exact leads_if (endOfCeEvent (of_own rfl))

theorem execPeerForgotten (s : State) (id : Nat) : Leads (execPeerForgotten id s) (NoRise s) := by
  unfold Machine.execPeerForgotten
  split
  · exact leads_refl s
  · exact leads_if (endOfCeEvent (of_own rfl))

/-! ### The notices -/

theorem execSentNotice (s : State) : Leads (execSentNotice s) (NoRise s) := by
  unfold Machine.execSentNotice
  split
  · exact (leads_next ..).2 (endOfCeEvent (s.takeLtx.takeSent_committed_le _))
  · exact leads_refl s

theorem execDroppedNotice (s : State) : Leads (execDroppedNotice s) (NoRise s) := by
  unfold Machine.execDroppedNotice
  split
  · exact (leads_next ..).2 (endOfCeEvent (s.takeLtx.takeDropped_committed_le _))
  · exact leads_refl s

theorem execRecalledNotice (s : State) : Leads (execRecalledNotice s) (NoRise s) := by
  unfold Machine.execRecalledNotice
  split
  · exact (leads_next ..).2 (endOfCeEvent s.takeLtx.takeRecalled_committed.le)
  · exact leads_refl s

theorem execIsolatedNotice (held : s.own.attach = .member → s.floor ≤ s.own.committed) :
    Leads (execIsolatedNotice s) (NoRise s) := by
  unfold Machine.execIsolatedNotice
  split
  · exact (leads_next ..).2 (endOfCeEvent (State.takeIsolated_committed_le (s := s.takeLtx) held))
  · exact leads_refl s

theorem execIsolationEndNotice (s : State) : Leads (execIsolationEndNotice s) (NoRise s) := by
  unfold Machine.execIsolationEndNotice
  split
  · exact (leads_next ..).2 (endOfCeEvent s.takeLtx.takeIsolationEnd_committed.le)
  · exact leads_refl s

theorem execRejoinNotice (s : State) : Leads (execRejoinNotice s) (NoRise s) := by
  unfold Machine.execRejoinNotice
  split
  · exact (leads_next ..).2 (endOfCeEvent (ite (of_released rfl) (.refl s)))
  · exact leads_refl s

theorem execCheckPassed (s : State) : Leads (execCheckPassed s) (NoRise s) := by
  unfold Machine.execCheckPassed
  split
  · exact (leads_next ..).2 (endOfCeEvent (ite (of_released rfl) (.refl s)))
  · exact leads_refl s

theorem execCheckFailed (s : State) : Leads (execCheckFailed s) (NoRise s) := by
  unfold Machine.execCheckFailed
  split
  · exact (leads_next ..).2 (endOfCeEvent (.refl s))
  · exact leads_refl s

theorem execShedStartNotice (s : State) : Leads (execShedStartNotice s) (NoRise s) := by
  unfold Machine.execShedStartNotice
  split
  · exact (leads_next ..).2 (endOfCeEvent s.takeSlu.withdrawalCause_committed.le)
  · exact leads_refl s

theorem execShedEndNotice (s : State) : Leads (execShedEndNotice s) (NoRise s) := by
  unfold Machine.execShedEndNotice
  split
  · split
    · exact leads_refl s
    · exact (leads_next ..).2 (endOfCeEvent (.refl s))
  · exact leads_refl s

theorem execForceAlarmNotice (s : State) : Leads (execForceAlarmNotice s) (NoRise s) := by
  unfold Machine.execForceAlarmNotice
  split
  · exact (leads_next ..).2 (endOfCeEvent s.takeAu.withdrawalCause_committed.le)
  · exact leads_refl s

theorem execClearedNotice (s : State) : Leads (execClearedNotice s) (NoRise s) := by
  unfold Machine.execClearedNotice
  split
  · exact (leads_next ..).2 (endOfCeEvent (.refl s))
  · exact leads_refl s

theorem execProfileChangeEvent (held : s.own.attach = .member → s.floor ≤ s.own.committed) :
    Leads (execProfileChangeEvent s) (NoRise s) := by
  unfold Machine.execProfileChangeEvent
  split
  · exact (leads_next ..).2 (endOfCeEvent (ite (State.applyProfileChange_committed_le (s := s.takePfu) held) (.refl s)))
  · exact leads_refl s

/-! ### The other units -/

theorem execPselChange (s : State) (a b c : Bool) : Leads (execPselChange a b c s) (NoRise s) := by
  unfold Machine.execPselChange
  dsimp only
  split
  · exact leads_own rfl
  · split
    · exact leads_refl s
    · exact leads_own rfl

theorem execShdLevelChange (s : State) (l : Level) : Leads (execShdLevelChange l s) (NoRise s) := by
  have observed : NoRise s s.observesDue :=
    ite (of_own s.observeAsserted_own).settle (ite (of_own s.observeReleased_own).settle (.refl s))
  unfold Machine.execShdLevelChange
  split
  · exact leads_own rfl
  · split
    · exact leads_refl s
    · exact (leads_next ..).2 observed

theorem execPwmeEdge (s : State) (rising : Bool) : Leads (execPwmeEdge rising s) (NoRise s) := by
  unfold Machine.execPwmeEdge
  dsimp only
  split
  · exact leads_own rfl
  · split
    all_goals exact (leads_next ..).2 (settle (of_own rfl))

theorem execTransactionStart (s : State) : Leads (execTransactionStart s) (NoRise s) := by
  unfold Machine.execTransactionStart
  split
  · exact leads_refl s
  · exact leads_own rfl

theorem clearNamed_auNoticesTaken (s : State) (cleared named : Word16) : NoRise s ((s.auNoticesTaken cleared).clearNamed named) :=
  of_kept ((congrArg OwnContext.committed (State.clearNamed_own ..)).trans (s.auNoticesTaken_committed cleared))

/-- No command but HOLD_WINDOW_EXPIRY raises the claim, in a station whose claim as a MEMBER is the floor at least. -/
theorem exec (c : Instr) (other : c ≠ .holdWindowExpiry) (held : s.own.attach = .member → s.floor ≤ s.own.committed) :
    Leads (exec c s) (NoRise s) := by
  cases c with
  | fullReset => exact (leads_next ..).2 (of_released rfl)
  | startDelimiter => exact execStartDelimiter s
  | malformedStart => exact execMalformedStart s
  | violation => exact execViolation s
  | tooLong => exact execTooLong s
  | endDelimiter => exact execEndDelimiter s
  | lineIdle => exact execLineIdle s
  | wholeByte b => exact execWholeByte s b
  | sdlDominant => exact leads_own (by simp)
  | attemptStart => exact execAttemptStart s
  | lostArbitration => exact execLostArbitration s
  | transmitFault => exact execTransmitFault s
  | announceTimerExpiry => exact leads_if (of_own (by simp))
  | isolationTimer3P => exact leads_if (of_own rfl)
  | isolationTimer40P => exact leads_if (of_own rfl)
  | repeatTimerExpiry => exact leads_if (of_own s.nextCheck_own)
  | peerLost id => exact execPeerLost s id
  | peerForgotten id => exact execPeerForgotten s id
  | duplicateTimerExpiry => exact leads_if (endOfCeEvent (of_own rfl))
  | takeAnnounce => exact execTakeAnnounce s
  | takeIntent => exact execTakeIntent s
  | takeSettle => exact execTakeSettle s
  | takeLeave => exact execTakeLeave s
  | takeOwnRecord => exact execTakeOwnRecord s
  | takeDuplicateRecord => exact execTakeDuplicateRecord s
  | takeErrorRecord => exact execTakeErrorRecord s
  | takeLossRecord => exact execTakeLossRecord s
  | takeCheckRecord => exact execTakeCheckRecord s
  | holdWindowExpiry => exact absurd rfl other
  | retryTimerExpiry => exact leads_if (endOfCeEvent (of_kept rfl))
  | listenTimerExpiry => exact leads_if (endOfCeEvent (of_kept rfl))
  | sentNotice => exact execSentNotice s
  | droppedNotice => exact execDroppedNotice s
  | recalledNotice => exact execRecalledNotice s
  | isolatedNotice => exact execIsolatedNotice held
  | isolationEndNotice => exact execIsolationEndNotice s
  | rejoinNotice => exact execRejoinNotice s
  | checkPassed => exact execCheckPassed s
  | checkFailed => exact execCheckFailed s
  | shedStartNotice => exact execShedStartNotice s
  | shedEndNotice => exact execShedEndNotice s
  | forceAlarmNotice => exact execForceAlarmNotice s
  | clearedNotice => exact execClearedNotice s
  | pselChange a b c => exact execPselChange s a b c
  | settleTimerExpiry => exact leads_if (of_own rfl)
  | profileChangeEvent => exact execProfileChangeEvent held
  | shdLevelChange l => exact execShdLevelChange s l
  | shdObservedAsserted => exact leads_if (of_own s.observeAsserted_own).settle
  | shdObservedReleased => exact leads_if (of_own s.observeReleased_own).settle
  | recoveryTimerExpiry => exact leads_if (settle (of_own rfl))
  | pwmeEdge rising => exact execPwmeEdge s rising
  | blankingEnd => exact leads_if (settle (of_own rfl))
  | senseChange n => exact (leads_next ..).2 (settle (of_own rfl))
  | trip => exact leads_if (of_own s.actOnTrip_own).settle
  | tripHoldEnd => exact leads_if (settle (of_own rfl))
  | cleanTimerExpiry => exact leads_if (of_own rfl)
  | followTimerExpiry => exact leads_if (settle (of_own rfl))
  | transactionStart => exact execTransactionStart s
  | transactionWithoutRequest => exact leads_if (of_own rfl)
  | unknownRequest code => exact leads_if (of_own rfl)
  | nop => exact leads_if (of_own rfl)
  | readStatus => exact leads_answer _ _ _ _ _ (.refl s)
  | readSnapshot ps => exact leads_answer _ _ _ _ _ (.refl s)
  | readCapture => exact leads_answer _ _ _ _ _ (of_own rfl)
  | readCounters ps => exact leads_answer _ _ _ _ _ (ite (of_own rfl) (.refl s))
  | configure ps => exact leads_answer _ _ _ _ _ (settle (of_kept rfl))
  | join => exact leads_answer _ _ _ _ _ (of_own (s.endTransaction.beginRun_own _ _))
  | leave =>
    have left : NoRise s s.endTransaction.takeLeaveRequest := of_released s.endTransaction.takeLeaveRequest_committed
    exact leads_answer _ _ _ _ _ left.endOfCeEvent
  | setTarget ps =>
    exact leads_answer _ _ _ _ _ (endOfCeEvent (State.applyTarget_committed_le (s := s.endTransaction) held))
  | reEnable => exact leads_answer _ _ _ _ _ (settle (of_own rfl))
  | assertShed => exact leads_answer _ _ _ _ _ (settle (of_own rfl))
  | releaseShed => exact leads_answer _ _ _ _ _ (settle (of_own rfl))
  | clearAlarms ps => exact leads_answer _ _ _ _ _ (clearNamed_auNoticesTaken s.endTransaction _ _)
  | takeSnapshot => exact leads_answer _ _ _ _ _ (endOfCeEvent (of_own rfl))
  | lineCheck ps => exact leads_answer _ _ _ _ _ (of_own (s.endTransaction.beginRun_own _ _))
  | stopCheck => exact leads_answer _ _ _ _ _ (of_own s.endTransaction.stopRun_own)
  | endOfFullReset => exact leads_if (of_own rfl)
  | resetIgnoreEnd => exact leads_if (of_own rfl)

end NoRise

/-- HOLD_WINDOW_EXPIRY raises the claim in WINDOW only, and by a grant with a headroom of Δmin at least. -/
theorem holdWindowExpiry_of_rise {s t : State} (hexec : exec .holdWindowExpiry s = .next t)
    (rise : s.own.committed < t.own.committed) : s.own.intentState = .window ∧
      (s.currentIntent.deltaMin : Int) ≤ s.headroom ∧ t = s.resolveGranted.endOfCeEvent := by
  change execHoldWindowExpiry s = .next t at hexec
  rw [execHoldWindowExpiry] at hexec
  split at hexec
  · rename_i due
    cases hexec
    rcases s.decideIntent_claim with kept | ⟨room, granted⟩
    · rw [State.endOfCeEvent_committed, kept] at rise
      exact absurd rise (lt_irrefl _)
    · exact ⟨(s.holdDue_iff.1 due).1, room, by rw [granted]⟩
  · cases hexec
    exact absurd rise (lt_irrefl _)

/-- The floor is no higher than the claim with the grant in it: a MEMBER claims it already, and the join intent asks for it. -/
theorem ClaimSound.floor_le_grant {s : State} (h : ClaimSound s) (window : s.own.intentState = .window)
    {f : IntentFields} (hf : s.own.current = some f) (least : f.deltaMin ≤ s.grantOf) :
    s.floor ≤ s.own.committed + s.grantOf := by
  rcases h.openAttach (by simp [window]) with joining | member
  · obtain ⟨-, deltaMin⟩ := h.joinIntent joining (.inr window) f hf
    omega
  · have between := (h.between member).1
    omega

/-- Settles O33: every other command leaves the claim or lets it fall, and the decision raises it by what it grants. -/
theorem claimRisesOnlyByAGrant : Obligations.ClaimRisesOnlyByAGrant := by
  intro c s t sound hexec rise
  by_cases hc : c = .holdWindowExpiry
  · subst hc
    obtain ⟨window, room, rfl⟩ := holdWindowExpiry_of_rise hexec rise
    obtain ⟨f, hf, one, order, -⟩ := sound.openIntent (.inr window)
    have intent : s.currentIntent = f := State.currentIntent_of_some hf
    obtain ⟨least, most, within⟩ := State.grantOf_bounds (by rwa [intent]) (by rwa [intent]) room
    rw [intent] at least most
    have floor := sound.floor_le_grant window hf least
    obtain ⟨claim, -, resolution⟩ := s.resolveGranted.endOfCeEvent_claim
    rw [s.resolveGranted_committed] at claim
    refine ⟨rfl, f, _, hf, resolution.trans s.resolveGranted_resolution, rfl, least, most, within, ?_, ?_⟩
    · change _ ≤ s.own.committed + s.grantOf
      rw [claim]
      split <;> omega
    · change s.own.committed + s.grantOf ≤ _ → _ = s.own.committed + s.grantOf
      rw [claim]
      split <;> omega
  · exact absurd (NoRise.exec c hc (fun member => (sound.between member).1) t hexec) (not_le.2 rise)

end Sys2Proof.Machine
end

section
/-! ## The end of every event that CE takes (O22) -/

namespace Sys2Proof.Machine

namespace State

/-- The target condition of R107, as the attach states read it. -/
theorem wantsMore_iff (s : State) :
    s.wantsMore = true ↔ s.own.attach = .joining ∨ (s.own.attach = .member ∧ s.own.committed < s.own.target) := by
  cases ha : s.own.attach <;> simp [wantsMore, ha]

/-- The opening conditions, one by one (R107). -/
theorem openingHolds_iff (s : State) :
    s.openingHolds = true ↔ s.own.intentState = .idle ∧
      (s.own.attach = .joining ∨ (s.own.attach = .member ∧ s.own.committed < s.own.target)) ∧ s.certain = true ∧
      s.shedInEffect = false ∧ s.own.isolated = false ∧ s.au.flags &&& s.au.forceMask = 0 := by
  simp [openingHolds, wantsMore_iff, forceSet, and_assoc]

theorem intentToOpen_of_joining {s : State} (h : s.own.attach = .joining) :
    s.intentToOpen = { number := s.own.nextNumber, delta := s.floor, deltaMin := s.floor, committedBefore := 0 } := by
  rw [intentToOpen, h]

theorem intentToOpen_of_not_joining {s : State} (h : s.own.attach ≠ .joining) :
    s.intentToOpen =
      { number := s.own.nextNumber, delta := s.own.target - s.own.committed,
        deltaMin := min s.own.minStep (s.own.target - s.own.committed), committedBefore := s.own.committed } := by
  cases ha : s.own.attach with
  | joining => exact absurd ha h
  | detached => rw [intentToOpen, ha]
  | listening => rw [intentToOpen, ha]
  | member => rw [intentToOpen, ha]
  | leaving => rw [intentToOpen, ha]

/-- The fields of the intent that opens, in JOINING and elsewhere (R103, R108). -/
theorem intentToOpen_eq (s : State) :
    s.intentToOpen = if s.own.attach = .joining then
        { number := s.own.nextNumber, delta := s.floor, deltaMin := s.floor, committedBefore := 0 }
      else
        { number := s.own.nextNumber, delta := s.own.target - s.own.committed,
          deltaMin := min s.own.minStep (s.own.target - s.own.committed), committedBefore := s.own.committed } := by
  split
  · rename_i h
    exact intentToOpen_of_joining h
  · rename_i h
    exact intentToOpen_of_not_joining h

theorem endOfCeEvent_of_opening {s : State} (h : s.openingHolds = true) : s.endOfCeEvent = s.openIntent.settle := by
  rw [endOfCeEvent, openingTest, if_pos h]

theorem endOfCeEvent_of_not_opening {s : State} (h : ¬ s.openingHolds = true) : s.endOfCeEvent = s.settle := by
  rw [endOfCeEvent, openingTest, if_neg h]

end State

/-- Settles O22: the opening conditions one by one, and the intent that they open. -/
theorem endOfCeEvent : Obligations.EndOfCeEvent := by
  refine fun s => ⟨fun idle wants certain noShed joined noForce => ?_, fun h => ?_⟩
  · have opens := s.openingHolds_iff.2 ⟨idle, wants, certain, noShed, joined, noForce⟩
    rw [State.endOfCeEvent_of_opening opens, State.openIntent, s.intentToOpen_eq]
    rfl
  · exact State.endOfCeEvent_of_not_opening (mt s.openingHolds_iff.1 h)

end Sys2Proof.Machine
end

section
/-! ## The claim keeps its bounds (O59): the shared operations

`ClaimSound` speaks of the own claim context, of the configuration, and of the occasions that need one: an attach state other than
DETACHED, a line check, a CHECK PASSED that waits (`State.needsConfig`). What leaves the context and the configuration alone, and
brings no occasion that was not there, keeps it (`ClaimSound.frame`); so does what the Claim Engine asks of LTX
(`ClaimSound.of_requests`). -/

namespace Sys2Proof.Machine

/-- The occasions on which the station is configured (R101, R175). -/
def State.needsConfig (s : State) : Prop :=
  s.own.attach ≠ .detached ∨ s.ltx.check.run.isSome = true ∨ .checkPassed ∈ s.notices.ltx

theorem RequestsOnly.needsConfig_iff {s t : State} (h : RequestsOnly s t) : t.needsConfig ↔ s.needsConfig := by
  rw [State.needsConfig, State.needsConfig, Ne, h.detached_iff, h.run, h.passed_mem_iff]

/-- R176: the floor is at least 1 and at most the ceiling. -/
theorem ConfigRecord.floor_bounds {c : ConfigRecord} (h : c.inRange = true) : 1 ≤ c.floor ∧ c.floor ≤ c.ceiling := by
  simp only [ConfigRecord.inRange, Bool.and_eq_true, decide_eq_true_eq] at h
  omega

namespace ClaimSound

variable {s t : State}

/-- What leaves the own context and the configuration alone, in a station that has one where it needs one. -/
theorem frame (h : ClaimSound s) (configured : t.needsConfig → s.configured = true) (own : t.own = s.own := by simp)
    (config : t.lport.config = s.lport.config := by simp) : ClaimSound t := by
  have floor : t.floor = s.floor := by simp only [State.floor, State.readConfig, config]
  have ceiling : t.ceiling = s.ceiling := by simp only [State.ceiling, State.readConfig, config]
  exact
    { inRange := config ▸ h.inRange
      configured := fun hn => by rw [State.configured, config]; exact configured hn
      noClaim := own ▸ h.noClaim
      between := by rw [own, floor, ceiling]; exact h.between
      target := by rw [own, ceiling]; exact h.target
      minStep := own ▸ h.minStep
      openAttach := own ▸ h.openAttach
      openIntent := by rw [own, ceiling]; exact h.openIntent
      joinIntent := by rw [own, floor]; exact h.joinIntent }

theorem of_requests (h : ClaimSound s) (r : RequestsOnly s t) (own : t.own = s.own := by simp)
    (config : t.lport.config = s.lport.config := by simp) : ClaimSound t :=
  h.frame (fun hn => h.configured (r.needsConfig_iff.1 hn)) own config

theorem ite {p : Prop} [Decidable p] {s t : State} (ht : ClaimSound t) (hs : ClaimSound s) :
    ClaimSound (if p then t else s) := by
  split
  · exact ht
  · exact hs

/-! ### What the bounds say of one state -/

theorem floor_bounds (h : ClaimSound s) (hc : s.configured = true) : 1 ≤ s.floor ∧ s.floor ≤ s.ceiling := by
  obtain ⟨c, hc⟩ := Option.isSome_iff_exists.1 hc
  simpa [State.floor, State.ceiling, State.readConfig, hc] using ConfigRecord.floor_bounds (h.inRange c hc)

/-- In DETACHED, LISTENING and LEAVING no intent is open. -/
theorem idle_of_attach (h : ClaimSound s) (hj : s.own.attach ≠ .joining) (hm : s.own.attach ≠ .member) :
    s.own.intentState = .idle := by
  by_contra hi
  exact (h.openAttach hi).elim hj hm

/-! ### Changes of the own context -/

/-- The claim of a MEMBER falls, but not below the floor. -/
theorem setCommitted (h : ClaimSound s) (member : s.own.attach = .member) {n : Nat} (floor : s.floor ≤ n)
    (fall : n ≤ s.own.committed) : ClaimSound (s.setOwn { s.own with committed := n }) :=
  { h with
    noClaim := fun other => absurd member other
    between := fun _ => ⟨floor, fall.trans (h.between member).2⟩
    openIntent := fun hi => by
      obtain ⟨f, hf, one, order, room⟩ := h.openIntent hi
      exact ⟨f, hf, one, order, (Nat.add_le_add_right fall _).trans room⟩ }

/-- With no intent open, the bounds of the claim by attach state are all there is to say. -/
theorem of_closed (h : ClaimSound s) (configured : t.needsConfig → s.configured = true)
    (closed : t.own.intentState ≠ .opening ∧ t.own.intentState ≠ .window)
    (placed : t.own.intentState ≠ .idle → t.own.attach = .joining ∨ t.own.attach = .member)
    (noClaim : t.own.attach ≠ .member → t.own.committed = 0)
    (between : t.own.attach = .member → s.floor ≤ t.own.committed ∧ t.own.committed ≤ s.ceiling)
    (config : t.lport.config = s.lport.config := by rfl) (target : t.own.target = s.own.target := by rfl)
    (minStep : t.own.minStep = s.own.minStep := by rfl) : ClaimSound t where
  inRange := config ▸ h.inRange
  configured := fun hn => by
    rw [State.configured, config]
    exact configured hn
  noClaim := noClaim
  between := by
    rw [State.floor, State.ceiling, State.readConfig, State.readConfig, config]
    exact between
  target := by
    rw [target, State.ceiling, State.readConfig, config]
    exact h.target
  minStep := h.minStep.trans minStep.ge
  openAttach := placed
  openIntent := fun hi => (hi.elim closed.1 closed.2).elim
  joinIntent := fun _ hi => (hi.elim closed.1 closed.2).elim

/-- An intent ends, or its wait does: claim, target and attach state stay. -/
theorem closeIntent (h : ClaimSound s) {c : OwnContext} (closed : c.intentState ≠ .opening ∧ c.intentState ≠ .window)
    (placed : s.own.intentState ≠ .idle) (attach : c.attach = s.own.attach := by rfl)
    (committed : c.committed = s.own.committed := by rfl) (target : c.target = s.own.target := by rfl)
    (minStep : c.minStep = s.own.minStep := by rfl) : ClaimSound (s.setOwn c) := by
  refine h.of_closed (fun hn => h.configured ?_) closed (fun _ => ?_) ?_ ?_ rfl target minStep
  · simpa [State.needsConfig, attach] using hn
  · simpa [attach] using h.openAttach placed
  · simpa [attach, committed] using h.noClaim
  · simpa [attach, committed] using h.between

/-- The claim is given back whole, and no intent is left: LEAVE, its completion, a rejoin, the entry into LISTENING. -/
theorem of_released (h : ClaimSound s) (configured : t.needsConfig → s.configured = true) (attach : t.own.attach ≠ .member)
    (committed : t.own.committed = 0 := by rfl) (idle : t.own.intentState = .idle := by rfl)
    (config : t.lport.config = s.lport.config := by rfl) (target : t.own.target = s.own.target := by rfl)
    (minStep : t.own.minStep = s.own.minStep := by rfl) : ClaimSound t :=
  h.of_closed configured (by simp [idle]) (fun hi => absurd idle hi) (fun _ => committed) (fun member => absurd member attach)
    config target minStep

/-! ### Requests, alarms and outputs -/

theorem request (h : ClaimSound s) (k : FrameKind) (hk : k ≠ .check) : ClaimSound (s.request k) :=
  h.of_requests (.request s k hk)

theorem fire (h : ClaimSound s) (k : AlarmKind) : ClaimSound (s.fire k) := h.of_requests (.fire s k)

theorem settle (h : ClaimSound s) : ClaimSound s.settle := h.of_requests (.settle s)

theorem setView (h : ClaimSound s) (v : View) : ClaimSound (s.setView v) := { h with }

theorem requestIntent (h : ClaimSound s) : ClaimSound s.requestIntent := h.of_requests (.requestIntent s)

theorem recallIntent (h : ClaimSound s) : ClaimSound s.recallIntent := h.of_requests (.recallIntent s)

/-! ### Opening an intent -/

/-- The join intent asks for the floor; that of a MEMBER for what is missing to the target (R103, R108). -/
theorem intentToOpen_room (h : ClaimSound s)
    (wants : s.own.attach = .joining ∨ (s.own.attach = .member ∧ s.own.committed < s.own.target)) :
    1 ≤ s.intentToOpen.deltaMin ∧ s.intentToOpen.deltaMin ≤ s.intentToOpen.delta ∧
      s.own.committed + s.intentToOpen.delta ≤ s.ceiling := by
  rcases wants with joining | ⟨member, below⟩
  · obtain ⟨one, room⟩ := h.floor_bounds (h.configured (.inl (by simp [joining])))
    rw [State.intentToOpen_of_joining joining, h.noClaim (by simp [joining]), Nat.zero_add]
    exact ⟨one, le_rfl, room⟩
  · have target := h.target
    have minStep := h.minStep
    rw [State.intentToOpen_of_not_joining (by simp [member])]
    dsimp only
    omega

theorem opensIntent (h : ClaimSound s)
    (wants : s.own.attach = .joining ∨ (s.own.attach = .member ∧ s.own.committed < s.own.target)) : ClaimSound s.openIntent := by
  have join (joining : s.own.attach = .joining) : s.intentToOpen.delta = s.floor ∧ s.intentToOpen.deltaMin = s.floor := by
    rw [State.intentToOpen_of_joining joining]
    exact ⟨rfl, rfl⟩
  refine requestIntent (s := s.setOwn _) ?_
  exact
    { h with
      openAttach := fun _ => wants.imp_right And.left
      openIntent := fun _ => ⟨s.intentToOpen, rfl, h.intentToOpen_room wants⟩
      joinIntent := fun joining _ f hf => by
        obtain rfl : s.intentToOpen = f := Option.some.inj hf
        exact join joining }

theorem openingTest (h : ClaimSound s) : ClaimSound s.openingTest := by
  unfold State.openingTest
  split
  · rename_i opens
    obtain ⟨-, wants, -⟩ := s.openingHolds_iff.1 opens
    exact h.opensIntent wants
  · exact h

theorem endOfCeEvent (h : ClaimSound s) : ClaimSound s.endOfCeEvent := h.openingTest.settle

/-! ### Resolving an intent -/

/-- A resolution that grants nothing. -/
theorem resolveNothing (h : ClaimSound s) (hi : s.own.intentState ≠ .idle) (o : IntentOutcome) (m : Option MarginClass) :
    ClaimSound (s.resolve o 0 m) := by
  refine request (s := (s.setIntents _).setOwn _) ?_ .settle (by decide)
  exact closeIntent (s := s.setIntents _) (h.setView _) ⟨by simp, by simp⟩ hi

theorem withdrawalCause (h : ClaimSound s) : ClaimSound s.withdrawalCause := by
  unfold State.withdrawalCause
  split
  · exact h
  · exact h
  · exact h
  · refine ite h (recallIntent (s := s.setOwn _) ?_)
    exact { h with }
  · rename_i hi
    exact h.resolveNothing (by simp [hi]) ..

/-- R116: the decrease of a MEMBER whose target is no higher than its claim. -/
theorem decrease (h : ClaimSound s) (member : s.own.attach = .member) (target : s.own.target ≤ s.own.committed) :
    ClaimSound s.decrease := by
  have lower := h.setCommitted member (le_max_right s.own.target s.floor) (max_le target (h.between member).1)
  exact ite (lower.request .announce (by decide)) lower

theorem settleToTarget (h : ClaimSound s) (member : s.own.attach = .member) : ClaimSound s.settleToTarget := by
  unfold State.settleToTarget
  split
  · rename_i below
    exact h.decrease member below.le
  · exact h


end ClaimSound

theorem State.becomeMember_own (s : State) :
    s.becomeMember.own = { s.own with attach := if s.own.attach = .joining then .member else s.own.attach } := by
  unfold becomeMember
  split <;> rfl

namespace ClaimSound

variable {s t : State}

/-- R90, R103: a grant brings the claim of a MEMBER, or of the station that becomes one, between the floor and the ceiling. -/
theorem resolveGranted (h : ClaimSound s) (window : s.own.intentState = .window)
    (room : (s.currentIntent.deltaMin : Int) ≤ s.headroom) : ClaimSound s.resolveGranted := by
  obtain ⟨f, hf, one, order, below⟩ := h.openIntent (.inr window)
  have intent : s.currentIntent = f := State.currentIntent_of_some hf
  obtain ⟨least, most, -⟩ := State.grantOf_bounds (by rwa [intent]) (by rwa [intent]) room
  rw [intent] at least most
  have attach := h.openAttach (by simp [window])
  rw [State.resolveGranted]
  generalize some (grantMargin (s.headroom - (s.grantOf : Int))) = margin
  obtain ⟨claim, target, -⟩ := s.becomeMember_resolve_claim .granted s.grantOf margin
  have configured : (s.resolve .granted s.grantOf margin).becomeMember.needsConfig → s.configured = true := fun hn =>
    h.configured (((RequestsOnly.resolve s ..).trans (.becomeMember _)).needsConfig_iff.1 hn)
  have member : (s.resolve .granted s.grantOf margin).becomeMember.own.attach = .member := by
    rcases attach with joining | member
    · simp [State.becomeMember_own, joining]
    · simp [State.becomeMember_own, member]
  refine settleToTarget (h.of_closed configured ?_ (fun _ => .inr member) (absurd member) (fun _ => ?_) ?_ target ?_)
    member
  · simp [State.becomeMember_own]
  · rw [claim]
    exact ⟨h.floor_le_grant window hf least, (Nat.add_le_add_left most _).trans below⟩
  · unfold State.becomeMember
    split <;> simp
  · simp [State.becomeMember_own, State.resolve]

/-- The decision at the end of the hold window. -/
theorem decideIntent (h : ClaimSound s) (window : s.own.intentState = .window) : ClaimSound s.decideIntent := by
  have notIdle : s.own.intentState ≠ .idle := by simp [window]
  unfold State.decideIntent
  split
  · exact h.resolveNothing notIdle ..
  · split
    · exact h.resolveNothing notIdle ..
    · split
      · exact h.resolveNothing notIdle ..
      · rename_i low
        exact h.resolveGranted window (not_lt.1 low)

/-! ### The ends of OPENING and SETTLING -/

theorem takeReadback (h : ClaimSound s) (hi : s.own.intentState = .opening) : ClaimSound s.takeReadback := by
  refine ite (h.resolveNothing (by simp [hi]) ..) ?_
  exact
    { h with
      openAttach := fun _ => h.openAttach (by simp [hi])
      openIntent := fun _ => h.openIntent (.inl hi)
      joinIntent := fun joining _ => h.joinIntent joining (.inl hi) }

theorem openingDoubt (h : ClaimSound s) : ClaimSound s.openingDoubt := by
  unfold State.openingDoubt
  split
  · rename_i hi
    refine ite (h.resolveNothing (by simp [hi]) ..) ?_
    exact { h with }
  · exact h

theorem openingSent (h : ClaimSound s) (hi : s.own.intentState = .opening) : ClaimSound s.openingSent := by
  refine ite (h.resolveNothing (by simp [hi]) ..) ?_
  exact { h with }

theorem endOpening (h : ClaimSound s) (hi : s.own.intentState = .opening) : ClaimSound s.endOpening :=
  h.closeIntent ⟨by simp, by simp⟩ (by simp [hi])

theorem endSettling (h : ClaimSound s) (hi : s.own.intentState = .settling) : ClaimSound s.endSettling :=
  ite (h.closeIntent ⟨by simp, by simp⟩ (by simp [hi])) (h.closeIntent ⟨by simp, by simp⟩ (by simp [hi]))

theorem endRetryWait (h : ClaimSound s) (hi : s.own.intentState = .retryWait) :
    ClaimSound (s.setOwn { s.own with intentState := .idle, retry := none }) :=
  h.closeIntent ⟨by simp, by simp⟩ (by simp [hi])

/-! ### Leaving, rejoining and attaching -/

theorem takeLeaveRequest (h : ClaimSound s) (ha : s.attached = true) : ClaimSound s.takeLeaveRequest :=
  h.of_released (fun _ => h.configured (.inl (s.attached_eq_true_iff.1 ha).1)) (fun hm => nomatch hm)

theorem takeRejoin (h : ClaimSound s) (ha : s.attached = true) : ClaimSound s.takeRejoin :=
  h.of_released (fun _ => h.configured (.inl (s.attached_eq_true_iff.1 ha).1)) (fun hm => nomatch hm)

theorem completeLeave (h : ClaimSound s) (hl : s.own.attach = .leaving) : ClaimSound s.completeLeave :=
  h.of_released (fun _ => h.configured (.inl (by simp [hl]))) (fun hm => nomatch hm)

/-- CHECK PASSED, taken in DETACHED: the station has been configured since the line check began. -/
theorem enterListening (h : ClaimSound s) (configured : s.configured = true) : ClaimSound s.enterListening :=
  h.of_released (fun _ => configured) (fun hm => nomatch hm)

/-- R102: JOINING begins with no claim and no intent. -/
theorem endListening (h : ClaimSound s) (ha : s.own.attach = .listening) :
    ClaimSound (s.setOwn { s.own with attach := .joining, listen := none }) := by
  have idle := h.idle_of_attach (by simp [ha]) (by simp [ha])
  refine h.of_closed (fun _ => h.configured (.inl (by simp [ha]))) ?_ (fun _ => .inl rfl) (fun _ => h.noClaim (by simp [ha])) (fun hm => nomatch hm)
  simp [idle]

theorem inFullReset (pins : Pins) (profile n : Nat) (q : List Instr) : ClaimSound (.inFullReset pins profile n q) :=
  { ClaimSound.reset with }

theorem takeSent (h : ClaimSound s) (k : FrameKind) : ClaimSound (s.takeSent k) := by
  unfold State.takeSent
  split
  · split
    · rename_i hi
      exact h.openingSent (by simpa using (Bool.and_eq_true_iff.1 hi).2)
    · exact h
  · split
    · rename_i hi
      exact h.endSettling (by simpa using (Bool.and_eq_true_iff.1 hi).2)
    · exact h
  · split
    · rename_i hl
      exact h.completeLeave hl
    · exact h
  all_goals exact h

theorem takeRecalled (h : ClaimSound s) : ClaimSound s.takeRecalled := by
  unfold State.takeRecalled
  split
  · rename_i hi
    exact h.endOpening (by simpa using (Bool.and_eq_true_iff.1 hi).2)
  · exact h

/-- A DROPPED notice of INTENT ends OPENING as RECALLED does, of another kind it does what SENT does. -/
theorem takeDropped (h : ClaimSound s) (k : FrameKind) : ClaimSound (s.takeDropped k) := by
  cases k with
  | intent => exact h.takeRecalled
  | settle => exact h.takeSent .settle
  | leave => exact h.takeSent .leave
  | announce => exact h
  | check => exact h

theorem fallToFloor (h : ClaimSound s) : ClaimSound s.fallToFloor := by
  unfold State.fallToFloor
  split
  · rename_i member
    exact (h.setCommitted member le_rfl (h.between member).1).request .announce (by decide)
  · exact h

theorem takeIsolated (h : ClaimSound s) : ClaimSound s.takeIsolated := by
  have flagged : ClaimSound (s.withdrawalCause.setOwn { s.withdrawalCause.own with isolated := true }) :=
    { h.withdrawalCause with }
  exact ite (flagged.fire .isolated).fallToFloor h

theorem takeIsolationEnd (h : ClaimSound s) : ClaimSound s.takeIsolationEnd := by
  refine ite ?_ h
  exact { h with }

/-! ### The change of profile and SET TARGET -/

/-- R131, R132: the cut brings the claim of a MEMBER no lower than the floor. -/
theorem proportionalShed (h : ClaimSound s) (b : Nat) : ClaimSound (s.proportionalShed b) := by
  unfold State.proportionalShed
  split
  · rename_i shed
    obtain ⟨member, above⟩ := shed
    have cut := h.setCommitted member (n := s.shedClaim b) (le_max_left ..)
      ((State.shedClaim_le_max above).trans (max_le (h.between member).1 le_rfl))
    have announced := cut.request .announce (by decide)
    exact ite (ite announced.withdrawalCause announced) cut
  · exact h

theorem withdrawWindow (h : ClaimSound s) : ClaimSound s.withdrawWindow := by
  unfold State.withdrawWindow
  split
  · rename_i hi
    exact h.resolveNothing (by simp [hi]) ..
  · exact h

theorem applyProfileChange (h : ClaimSound s) (b : Nat) : ClaimSound (s.applyProfileChange b) := by
  have shed := (ClaimSound.withdrawWindow (s := s.unrefresh) (h.setView _)).proportionalShed b
  exact ite (shed.fire .budgetDeficit) shed

/-- R116, R178: the new target is no higher than the ceiling. -/
theorem applyTarget (h : ClaimSound s) {target minStep : Nat} (ht : target ≤ s.ceiling) (hm : 1 ≤ minStep) :
    ClaimSound (s.applyTarget target minStep) := by
  have set : ClaimSound (s.withTarget target minStep) := { h with target := ht, minStep := hm }
  unfold State.applyTarget
  dsimp only
  split
  · rename_i fall
    obtain ⟨member, le⟩ := fall
    refine ite (set.withdrawalCause.decrease ?_ ?_) set.withdrawalCause
    · simpa [State.withTarget] using member
    · simpa [State.withTarget, State.withdrawalCause_target] using le
  · exact set

/-- R176: the stored record is in range and lowers the target to its ceiling. In DETACHED there is no claim, and no intent. -/
theorem storeConfig (h : ClaimSound s) {c : ConfigRecord} (hd : s.own.attach = .detached) (hc : c.inRange = true) :
    ClaimSound (s.storeConfig c) := by
  have idle := h.idle_of_attach (by simp [hd]) (by simp [hd])
  have notMember : s.own.attach ≠ .member := by simp [hd]
  have closed : ¬ (s.own.intentState = .opening ∨ s.own.intentState = .window) := by simp [idle]
  refine settle (s := (((s.setLport _).setPfu _).setAu _).setOwn _) ?_
  exact
    { h with
      inRange := fun c' hc' => by
        obtain rfl : c = c' := Option.some.inj hc'
        exact hc
      configured := fun _ => rfl
      between := fun member => absurd member notMember
      target := min_le_right ..
      openIntent := fun hi => absurd hi closed
      joinIntent := fun _ hi => absurd hi closed }

/-! ### Records -/

theorem confirm (h : ClaimSound s) (mm : Bool) : ClaimSound (s.confirm mm) := by
  refine ite ?_ h
  exact { h with }

theorem ownGood (h : ClaimSound s) (mm : Bool) (d : Decoded) : ClaimSound (s.ownGood mm d) := by
  have unrefreshed : ClaimSound (s.unrefreshIf mm) := h.of_requests .of_eq
  unfold State.ownGood
  dsimp only
  split
  · split
    · rename_i hi
      exact unrefreshed.takeReadback hi.1
    · exact unrefreshed
  all_goals exact unrefreshed

theorem ownRecord (h : ClaimSound s) (c : Content) : ClaimSound (s.ownRecord c) := by
  have doubted : ClaimSound s.unrefresh.openingDoubt := openingDoubt (h.setView _)
  unfold State.ownRecord
  split
  · exact h
  · split
    · exact h.ownGood ..
    · exact h.openingDoubt
    all_goals exact doubted

theorem duplicateRecord (h : ClaimSound s) (mm : Bool) : ClaimSound (s.duplicateRecord mm) :=
  h.of_requests (.duplicateRecord s mm) (s.duplicateRecord_own mm) (by simp [State.duplicateRecord])

theorem auNoticesTaken (h : ClaimSound s) (cleared : Word16) : ClaimSound (s.auNoticesTaken cleared) := by
  refine s.auNoticesTaken_induction cleared ClaimSound h fun t ht n => ?_
  have taken : ClaimSound t.takeAu := { ht with }
  cases n with
  | forceAlarm k => exact taken.withdrawalCause.endOfCeEvent
  | cleared => exact taken.endOfCeEvent

end ClaimSound

end Sys2Proof.Machine
end

section
/-! ## The claim keeps its bounds (O59): the link

LRX and LTX leave the own claim context and the configuration alone. A CHECK PASSED comes from a line check, and a line check begins
in a configured station; so they bring no new occasion that needs a configuration (`State.needsConfig`). -/

namespace Sys2Proof.Machine

namespace ClaimSound

variable {s t : State}

/-! ### The line check -/

/-- A line check runs in a configured station alone. -/
theorem configured_of_run (h : ClaimSound s) {r : CheckRun} (hr : s.ltx.check.run = some r) : s.configured = true :=
  h.configured (.inr (.inl (by simp [hr])))

theorem endRun (h : ClaimSound s) : ClaimSound s.endRun :=
  h.frame fun hn => h.configured (hn.imp_right fun hn => .inr (hn.resolve_left nofun))

/-- CHECK PASSED comes from a run. -/
theorem afterCheck (h : ClaimSound s) (passed : Bool) : ClaimSound (s.afterCheck passed) := by
  cases hr : s.ltx.check.run with
  | none =>
    rw [State.afterCheck, hr]
    exact { h with }
  | some r => exact h.frame fun _ => h.configured_of_run hr

theorem checkPasses (h : ClaimSound s) : ClaimSound s.checkPasses := by
  refine afterCheck (s := s.setLtx _) ?_ true
  exact { h with }

theorem checkFails (h : ClaimSound s) : ClaimSound s.checkFails := by
  refine afterCheck (fire (s := s.setLtx _) ?_ .lineFault) false
  exact { h with }

/-- A run begins in a configured station (R175). -/
theorem beginRun (h : ClaimSound s) (may : s.mayCheck = true) (m : CheckMode) (o : CheckOwner) : ClaimSound (s.beginRun m o) :=
  h.frame (fun _ => (Bool.and_eq_true_iff.1 may).2) (s.beginRun_own m o) (by simp [State.beginRun])

theorem nextCheck (h : ClaimSound s) (due : s.repeatDue = true) : ClaimSound s.nextCheck := by
  obtain ⟨r, hr, -⟩ := (Option.any_eq_true _ _).1 (Bool.and_eq_true_iff.1 due).2
  exact h.frame (fun _ => h.configured_of_run hr) s.nextCheck_own (by simp [State.nextCheck])

theorem stopRun (h : ClaimSound s) : ClaimSound s.stopRun := by
  unfold State.stopRun
  split
  · exact h
  · rename_i r hr
    split
    · exact h.endRun
    · refine ite ?_ h.endRun
      exact { h with configured := fun _ => h.configured_of_run hr }
    · exact h

/-! ### The end of an attempt -/

theorem giveLtx (h : ClaimSound s) {n : LtxNotice} (hn : n ≠ .checkPassed) : ClaimSound (s.giveLtx n) :=
  h.of_requests (.giveLtx s n hn) rfl rfl

theorem sentRestartsIsolation (h : ClaimSound s) : ClaimSound s.sentRestartsIsolation :=
  h.of_requests (.sentRestartsIsolation s)

theorem attemptSent (h : ClaimSound s) (good : Bool) : ClaimSound (s.attemptSent good) := by
  unfold State.attemptSent
  split
  · exact h
  · rename_i a _
    have released : ClaimSound s.releaseSdl := { h with }
    have settled : ClaimSound (s.releaseSdl.sentSettlesIntent a) := by
      refine ite ?_ released
      exact { h with }
    have left : ClaimSound ((s.releaseSdl.sentSettlesIntent a).sentLeavesSet a.kind) := by
      unfold State.sentLeavesSet
      split
      all_goals exact { settled with }
    refine ite (ite released.checkPasses released.checkFails) ?_
    exact (left.giveLtx (by simp)).sentRestartsIsolation

theorem attemptFailed (h : ClaimSound s) (k : FrameKind) (raise : PendEntry → PendEntry) :
    ClaimSound (s.attemptFailed k raise) := by
  unfold State.attemptFailed
  split
  · refine ite ?_ h
    exact { h with }
  · refine ite (giveLtx (s := s.setLtx _) ?_ (by simp)) (ite (giveLtx (s := (s.setPend _).setCounters _) ?_ (by simp)) ?_)
    all_goals exact { h with }

theorem loseArbitration (h : ClaimSound s) (k : FrameKind) : ClaimSound (s.loseArbitration k) := by
  have lost : ClaimSound (s.releaseSdl.sdlReadsDominant.setCounters
      { s.lport.counters with lostArb := bump s.lport.counters.lostArb }) := { h with }
  exact ite lost.endRun (lost.attemptFailed _ _)

theorem meetFault (h : ClaimSound s) (k : FrameKind) : ClaimSound (s.meetFault k) := by
  have fault : ClaimSound (s.releaseSdl.sdlReadsRecessive.setCounters
      { s.lport.counters with txFault := bump s.lport.counters.txFault }) := { h with }
  exact ite (fault.fire _).checkFails ((fault.fire _).attemptFailed _ _)

/-! ### The Link Receiver -/

theorem handRecord (h : ClaimSound s) (r : FrameRecord) : ClaimSound (s.handRecord r) := by
  refine ite h (ite { h with } (fire (s := (s.setRsq _).setCounters _) ?_ _))
  exact { h with }

theorem discardFrame (h : ClaimSound s) (bs : List Byte) (n : Nat) (c : Content) : ClaimSound (s.discardFrame bs n c) :=
  settle (handRecord (s := s.setLrxState .discard) { h with } _)

theorem handOff (h : ClaimSound s) (c : Classified) (bs : List Byte) : ClaimSound (s.handOff c bs) := by
  have aligned : ClaimSound (s.alignAnnounce (frameSender bs)) := by
    refine ite ?_ h
    exact { h with }
  unfold State.handOff
  split
  · exact ite h aligned
  all_goals exact h

theorem frameEnds (h : ClaimSound s) (bs : List Byte) : ClaimSound (s.frameEnds bs) := by
  have counted (l : Lrx) : ClaimSound (s.setLrx l) := { h with }
  exact ((((counted _).handRecord _).handOff _ _).attemptSent _).settle

theorem seesIdle (h : ClaimSound s) : ClaimSound s.seesIdle := by
  refine ite ?_ h
  exact { h with }

theorem frameStart (h : ClaimSound s) (ht : s.frameStart = some t) : ClaimSound t := by
  rcases (s.frameStart_eq_some_iff t).1 ht with ⟨-, rfl⟩ | ⟨-, -, -, rfl⟩
  · exact h.seesIdle.of_requests (.sdlStarted _)
  · exact h

theorem sdlIdle (h : ClaimSound s) : ClaimSound s.sdlIdle := h.of_requests (.sdlIdle s)

/-! ### Trips, the shed line, alarms and time -/

theorem latchTrip (h : ClaimSound s) : ClaimSound s.latchTrip := by
  refine fire (s := s.setCmon _) ?_ .tripLatched
  exact { h with }

theorem actOnTrip (h : ClaimSound s) : ClaimSound s.actOnTrip := by
  have holds (m : TripMode) : ClaimSound (s.holdTrip m) := { h with }
  unfold State.actOnTrip
  split
  · exact h
  · exact h.latchTrip
  all_goals exact ite (h.latchTrip.fire .overdrawPersistent) (holds _)

theorem observeAsserted (h : ClaimSound s) : ClaimSound s.observeAsserted := by
  refine fire (s := (s.setSlu _).giveSlu _) ?_ .shedSeen
  exact { h with }

theorem observeReleased (h : ClaimSound s) : ClaimSound s.observeReleased := by
  refine ite ?_ ?_
  all_goals exact { h with }

theorem observesDue (h : ClaimSound s) : ClaimSound s.observesDue :=
  ite h.observeAsserted.settle (ite h.observeReleased.settle h)

theorem clearNamed (h : ClaimSound s) (named : Word16) : ClaimSound (s.clearNamed named) := by
  refine settle (ite ?_ ?_)
  all_goals exact { h with }

theorem tick (h : ClaimSound s) : ClaimSound s.tick := by
  refine ite h ?_
  exact { h with }

end ClaimSound

end Sys2Proof.Machine
end

section
/-! ## The claim keeps its bounds (O59): every command, and every step -/

namespace Sys2Proof.Machine

namespace ClaimSound

variable {s : State}

theorem leads_if {t : State} {b : Bool} (h : ClaimSound s) (ht : b = true → ClaimSound t) :
    Leads (if b then .next t else .next s) ClaimSound := leads_ite ht h

/-- An event whose effect keeps the bounds and is followed by the outputs. -/
theorem leads_settle_if {t : State} {b : Bool} (h : ClaimSound s) (ht : ClaimSound t) :
    Leads (if b then .next t.settle else .next s) ClaimSound := h.leads_if fun _ => ht.settle

/-- A request whose carrying out keeps the bounds does so with its answer. -/
theorem leads_answer (h : ClaimSound s) (request : Byte) (enough taken inRange : Bool) (carry : State → Carried)
    (carried : taken = true → inRange = true → ClaimSound s.endTransaction → ClaimSound (carry s.endTransaction).state) :
    Leads (.next (s.answer request enough taken inRange carry)) ClaimSound := by
  have ended : ClaimSound s.endTransaction := { h with }
  have answers {t : State} (ht : ClaimSound t) (code : RespCode) (data : List Byte) :
      ClaimSound (t.respond code request data) := { ht with }
  refine (leads_next ..).2 (s.answer_induction ClaimSound request enough taken inRange carry h ?_ ?_)
  · exact fun code => answers ended code []
  · exact fun _ _ taken inRange => answers (carried taken inRange ended) _ _

/-! ### The Link Receiver and the Link Transmitter -/

theorem execStartDelimiter (h : ClaimSound s) : Leads (execStartDelimiter s) ClaimSound := by
  unfold Machine.execStartDelimiter
  split
  · exact (leads_next ..).2 h
  · rename_i t ht
    exact (leads_next ..).2 { h.frameStart ht with }

theorem execMalformedStart (h : ClaimSound s) : Leads (execMalformedStart s) ClaimSound := by
  unfold Machine.execMalformedStart
  split
  · exact (leads_next ..).2 h
  · rename_i t ht
    exact (leads_next ..).2 ((h.frameStart ht).discardFrame ..)

theorem execViolation (h : ClaimSound s) : Leads (execViolation s) ClaimSound := by
  unfold Machine.execViolation
  split
  · exact (leads_next ..).2 (h.discardFrame ..)
  all_goals exact (leads_next ..).2 h

theorem execTooLong (h : ClaimSound s) : Leads (execTooLong s) ClaimSound := by
  unfold Machine.execTooLong
  split
  · split
    · exact (leads_next ..).2 (h.discardFrame ..)
    · exact (leads_next ..).2 h
  all_goals exact (leads_next ..).2 h

theorem execEndDelimiter (h : ClaimSound s) : Leads (execEndDelimiter s) ClaimSound := by
  have recessive : ClaimSound s.sdlTwoCellsRecessive := { h with }
  unfold Machine.execEndDelimiter
  split
  · exact (leads_next ..).2 (recessive.frameEnds _)
  all_goals exact h.leads_settle_if (recessive.attemptSent false)

theorem execLineIdle (h : ClaimSound s) : Leads (execLineIdle s) ClaimSound := by
  unfold Machine.execLineIdle
  split
  · split
    case h_4 => exact (leads_next ..).2 h.sdlIdle
    case h_5 => exact (leads_next ..).2 h
    all_goals exact (leads_next ..).2 { h.sdlIdle with }
  · exact (leads_next ..).2 h

theorem execWholeByte (h : ClaimSound s) (b : Byte) : Leads (execWholeByte b s) ClaimSound := by
  unfold Machine.execWholeByte
  split
  · split
    · dsimp only
      split
      all_goals exact (leads_next ..).2 { h with }
    · exact (leads_next ..).2 (h.discardFrame ..)
  all_goals exact (leads_next ..).2 h

theorem execAttemptStart (h : ClaimSound s) : Leads (execAttemptStart s) ClaimSound := by
  unfold Machine.execAttemptStart
  split
  · exact (leads_next ..).2 h
  · exact (leads_next ..).2 { h with }

theorem execLostArbitration (h : ClaimSound s) : Leads (execLostArbitration s) ClaimSound := by
  unfold Machine.execLostArbitration
  split
  · exact (leads_next ..).2 h
  · exact (leads_next ..).2 (h.loseArbitration _)

theorem execTransmitFault (h : ClaimSound s) : Leads (execTransmitFault s) ClaimSound := by
  unfold Machine.execTransmitFault
  split
  · exact (leads_next ..).2 h
  · exact (leads_next ..).2 (h.meetFault _).settle

theorem execAnnounceTimerExpiry (h : ClaimSound s) : Leads (execAnnounceTimerExpiry s) ClaimSound := by
  refine h.leads_if fun _ => request (s := s.setLtx _) ?_ .announce (by decide)
  exact { h with }

/-- LTX gives a notice, and marks that it has. -/
theorem setLtx_giveLtx (h : ClaimSound s) {x : Ltx} {n : LtxNotice} (hn : n ≠ .checkPassed)
    (check : x.check = s.ltx.check := by rfl) : ClaimSound ((s.setLtx x).giveLtx n) :=
  giveLtx (s := s.setLtx x) (h.frame fun needs => h.configured (by simpa [State.needsConfig, check] using needs)) hn

/-! ### The records -/

theorem dropHead (h : ClaimSound s) : ClaimSound s.dropHead := { h with }

/-- CE applies a peer's record to the view, confirms its own intent, and ends the event. -/
theorem leads_peer {t : State} (h : ClaimSound s) (r : RequestsOnly s t) (mm : Bool) (own : t.own = s.own := by simp)
    (config : t.lport.config = s.lport.config := by simp) : Leads (.next (t.confirm mm).endOfCeEvent) ClaimSound :=
  (leads_next ..).2 ((h.of_requests r own config).confirm mm).endOfCeEvent

theorem execTakeAnnounce (h : ClaimSound s) : Leads (execTakeAnnounce s) ClaimSound := by
  unfold Machine.execTakeAnnounce
  split
  · exact h.dropHead.leads_peer (.peerAnnounce ..) _
  all_goals exact (leads_next ..).2 h

theorem execTakeIntent (h : ClaimSound s) : Leads (execTakeIntent s) ClaimSound := by
  unfold Machine.execTakeIntent
  split
  · exact h.dropHead.leads_peer .of_eq _
  all_goals exact (leads_next ..).2 h

theorem execTakeSettle (h : ClaimSound s) : Leads (execTakeSettle s) ClaimSound := by
  unfold Machine.execTakeSettle
  split
  · exact h.dropHead.leads_peer .of_eq _
  all_goals exact (leads_next ..).2 h

theorem execTakeLeave (h : ClaimSound s) : Leads (execTakeLeave s) ClaimSound := by
  unfold Machine.execTakeLeave
  split
  · exact h.dropHead.leads_peer .of_eq _
  all_goals exact (leads_next ..).2 h

theorem execTakeOwnRecord (h : ClaimSound s) : Leads (execTakeOwnRecord s) ClaimSound := by
  unfold Machine.execTakeOwnRecord
  split
  · exact (leads_next ..).2 (h.dropHead.ownRecord _).endOfCeEvent
  all_goals exact (leads_next ..).2 h

theorem execTakeDuplicateRecord (h : ClaimSound s) : Leads (execTakeDuplicateRecord s) ClaimSound := by
  unfold Machine.execTakeDuplicateRecord
  split
  · exact (leads_next ..).2 (h.dropHead.duplicateRecord _).endOfCeEvent
  all_goals exact (leads_next ..).2 h

theorem execTakeErrorRecord (h : ClaimSound s) : Leads (execTakeErrorRecord s) ClaimSound := by
  unfold Machine.execTakeErrorRecord
  split
  · exact (leads_next ..).2 (endOfCeEvent (ite h.dropHead (h.dropHead.setView _)))
  all_goals exact (leads_next ..).2 h

theorem execTakeLossRecord (h : ClaimSound s) : Leads (execTakeLossRecord s) ClaimSound := by
  unfold Machine.execTakeLossRecord
  split
  · exact (leads_next ..).2 (openingDoubt (h.dropHead.setView _)).endOfCeEvent
  all_goals exact (leads_next ..).2 h

theorem execTakeCheckRecord (h : ClaimSound s) : Leads (execTakeCheckRecord s) ClaimSound := by
  unfold Machine.execTakeCheckRecord
  split
  · exact (leads_next ..).2 h.dropHead.endOfCeEvent
  all_goals exact (leads_next ..).2 h

theorem execPeerLost (h : ClaimSound s) (id : Nat) : Leads (execPeerLost id s) ClaimSound := by
  unfold Machine.execPeerLost
  split
  · exact (leads_next ..).2 h
  · refine h.leads_if fun _ => endOfCeEvent ?_
    exact { h with }

theorem execPeerForgotten (h : ClaimSound s) (id : Nat) : Leads (execPeerForgotten id s) ClaimSound := by
  unfold Machine.execPeerForgotten
  split
  · exact (leads_next ..).2 h
  · exact h.leads_if fun _ => (h.setView _).endOfCeEvent

/-! ### The timers of the Claim Engine and the notices -/

theorem execHoldWindowExpiry (h : ClaimSound s) : Leads (execHoldWindowExpiry s) ClaimSound :=
  h.leads_if fun due => (h.decideIntent (s.holdDue_iff.1 due).1).endOfCeEvent

theorem execRetryTimerExpiry (h : ClaimSound s) : Leads (execRetryTimerExpiry s) ClaimSound :=
  h.leads_if fun due => (h.endRetryWait (by simpa using (Bool.and_eq_true_iff.1 due).1)).endOfCeEvent

theorem execListenTimerExpiry (h : ClaimSound s) : Leads (execListenTimerExpiry s) ClaimSound :=
  h.leads_if fun due => (h.endListening (by simpa using (Bool.and_eq_true_iff.1 due).1)).endOfCeEvent

/-- With a notice taken, no more occasions need a configuration than before. -/
theorem takeLtx (h : ClaimSound s) : ClaimSound s.takeLtx :=
  { h with configured := fun hn => h.configured (hn.imp_right (Or.imp_right List.mem_of_mem_tail)) }

theorem takeSlu (h : ClaimSound s) : ClaimSound s.takeSlu := { h with }

theorem takeAu (h : ClaimSound s) : ClaimSound s.takeAu := { h with }

theorem takePfu (h : ClaimSound s) : ClaimSound s.takePfu := { h with }

theorem execSentNotice (h : ClaimSound s) : Leads (execSentNotice s) ClaimSound := by
  unfold Machine.execSentNotice
  split
  · exact (leads_next ..).2 (h.takeLtx.takeSent _).endOfCeEvent
  · exact (leads_next ..).2 h

theorem execDroppedNotice (h : ClaimSound s) : Leads (execDroppedNotice s) ClaimSound := by
  unfold Machine.execDroppedNotice
  split
  · exact (leads_next ..).2 (h.takeLtx.takeDropped _).endOfCeEvent
  · exact (leads_next ..).2 h

theorem execRecalledNotice (h : ClaimSound s) : Leads (execRecalledNotice s) ClaimSound := by
  unfold Machine.execRecalledNotice
  split
  · exact (leads_next ..).2 h.takeLtx.takeRecalled.endOfCeEvent
  · exact (leads_next ..).2 h

theorem execIsolatedNotice (h : ClaimSound s) : Leads (execIsolatedNotice s) ClaimSound := by
  unfold Machine.execIsolatedNotice
  split
  · exact (leads_next ..).2 h.takeLtx.takeIsolated.endOfCeEvent
  · exact (leads_next ..).2 h

theorem execIsolationEndNotice (h : ClaimSound s) : Leads (execIsolationEndNotice s) ClaimSound := by
  unfold Machine.execIsolationEndNotice
  split
  · exact (leads_next ..).2 h.takeLtx.takeIsolationEnd.endOfCeEvent
  · exact (leads_next ..).2 h

theorem execRejoinNotice (h : ClaimSound s) : Leads (execRejoinNotice s) ClaimSound := by
  unfold Machine.execRejoinNotice
  split
  · refine (leads_next ..).2 (endOfCeEvent ?_)
    split
    · rename_i attached
      exact h.takeLtx.takeRejoin attached
    · exact h.takeLtx
  · exact (leads_next ..).2 h

/-- The CHECK PASSED that waited says that the station is configured. -/
theorem execCheckPassed (h : ClaimSound s) : Leads (execCheckPassed s) ClaimSound := by
  unfold Machine.execCheckPassed
  split
  · rename_i passed
    have configured := h.configured (.inr (.inr (by simp [passed])))
    exact (leads_next ..).2 (endOfCeEvent (ite (h.takeLtx.enterListening configured) h.takeLtx))
  · exact (leads_next ..).2 h

theorem execCheckFailed (h : ClaimSound s) : Leads (execCheckFailed s) ClaimSound := by
  unfold Machine.execCheckFailed
  split
  · exact (leads_next ..).2 h.takeLtx.endOfCeEvent
  · exact (leads_next ..).2 h

theorem execShedStartNotice (h : ClaimSound s) : Leads (execShedStartNotice s) ClaimSound := by
  unfold Machine.execShedStartNotice
  split
  · exact (leads_next ..).2 h.takeSlu.withdrawalCause.endOfCeEvent
  · exact (leads_next ..).2 h

theorem execShedEndNotice (h : ClaimSound s) : Leads (execShedEndNotice s) ClaimSound := by
  unfold Machine.execShedEndNotice
  split
  · split
    · exact (leads_next ..).2 h
    · exact (leads_next ..).2 h.takeSlu.endOfCeEvent
  · exact (leads_next ..).2 h

theorem execForceAlarmNotice (h : ClaimSound s) : Leads (execForceAlarmNotice s) ClaimSound := by
  unfold Machine.execForceAlarmNotice
  split
  · exact (leads_next ..).2 h.takeAu.withdrawalCause.endOfCeEvent
  · exact (leads_next ..).2 h

theorem execClearedNotice (h : ClaimSound s) : Leads (execClearedNotice s) ClaimSound := by
  unfold Machine.execClearedNotice
  split
  · exact (leads_next ..).2 h.takeAu.endOfCeEvent
  · exact (leads_next ..).2 h

theorem execProfileChangeEvent (h : ClaimSound s) : Leads (execProfileChangeEvent s) ClaimSound := by
  unfold Machine.execProfileChangeEvent
  split
  · exact (leads_next ..).2 (endOfCeEvent (ite (h.takePfu.applyProfileChange _) h.takePfu))
  · exact (leads_next ..).2 h

/-! ### The other units, and the Local Port -/

theorem execPselChange (h : ClaimSound s) (a b c : Bool) : Leads (execPselChange a b c s) ClaimSound := by
  unfold Machine.execPselChange
  dsimp only
  split
  · exact (leads_next ..).2 { h with }
  · split
    · exact (leads_next ..).2 h
    · exact (leads_next ..).2 { h with }

theorem execShdLevelChange (h : ClaimSound s) (l : Level) : Leads (execShdLevelChange l s) ClaimSound := by
  unfold Machine.execShdLevelChange
  split
  · exact (leads_next ..).2 { h with }
  · split
    · exact (leads_next ..).2 h
    · exact (leads_next ..).2 { h.observesDue with }

theorem execPwmeEdge (h : ClaimSound s) (rising : Bool) : Leads (execPwmeEdge rising s) ClaimSound := by
  unfold Machine.execPwmeEdge
  dsimp only
  split
  · exact (leads_next ..).2 { h with }
  · split
    all_goals exact (leads_next ..).2 (settle { h with })

theorem execTransactionStart (h : ClaimSound s) : Leads (execTransactionStart s) ClaimSound := by
  unfold Machine.execTransactionStart
  split
  · exact (leads_next ..).2 h
  · exact (leads_next ..).2 { h with }

theorem execConfigure (h : ClaimSound s) (ps : List Byte) : Leads (execConfigure ps s) ClaimSound :=
  h.leads_answer _ _ _ _ _ fun taken inRange ht =>
    ht.storeConfig (by simpa using (Bool.and_eq_true_iff.1 taken).1) inRange

theorem execSetTarget (h : ClaimSound s) (ps : List Byte) : Leads (execSetTarget ps s) ClaimSound :=
  h.leads_answer _ _ _ _ _ fun _ inRange ht => by
    simp only [Bool.and_eq_true, decide_eq_true_eq] at inRange
    obtain ⟨⟨target, minStep⟩, -⟩ := inRange
    exact (ht.applyTarget target minStep).endOfCeEvent

/-- Every command keeps the bounds. -/
theorem exec (c : Instr) (h : ClaimSound s) : Leads (exec c s) ClaimSound := by
  cases c with
  | fullReset => exact (leads_next ..).2 (.inFullReset ..)
  | startDelimiter => exact h.execStartDelimiter
  | malformedStart => exact h.execMalformedStart
  | violation => exact h.execViolation
  | tooLong => exact h.execTooLong
  | endDelimiter => exact h.execEndDelimiter
  | lineIdle => exact h.execLineIdle
  | wholeByte b => exact h.execWholeByte b
  | sdlDominant => exact (leads_next ..).2 { h.seesIdle with }
  | attemptStart => exact h.execAttemptStart
  | lostArbitration => exact h.execLostArbitration
  | transmitFault => exact h.execTransmitFault
  | announceTimerExpiry => exact h.execAnnounceTimerExpiry
  | isolationTimer3P => exact h.leads_if fun _ => h.setLtx_giveLtx (by decide)
  | isolationTimer40P => exact h.leads_if fun _ => h.setLtx_giveLtx (by decide)
  | repeatTimerExpiry => exact h.leads_if h.nextCheck
  | peerLost id => exact h.execPeerLost id
  | peerForgotten id => exact h.execPeerForgotten id
  | duplicateTimerExpiry => exact h.leads_if fun _ => (h.setView _).endOfCeEvent
  | takeAnnounce => exact h.execTakeAnnounce
  | takeIntent => exact h.execTakeIntent
  | takeSettle => exact h.execTakeSettle
  | takeLeave => exact h.execTakeLeave
  | takeOwnRecord => exact h.execTakeOwnRecord
  | takeDuplicateRecord => exact h.execTakeDuplicateRecord
  | takeErrorRecord => exact h.execTakeErrorRecord
  | takeLossRecord => exact h.execTakeLossRecord
  | takeCheckRecord => exact h.execTakeCheckRecord
  | holdWindowExpiry => exact h.execHoldWindowExpiry
  | retryTimerExpiry => exact h.execRetryTimerExpiry
  | listenTimerExpiry => exact h.execListenTimerExpiry
  | sentNotice => exact h.execSentNotice
  | droppedNotice => exact h.execDroppedNotice
  | recalledNotice => exact h.execRecalledNotice
  | isolatedNotice => exact h.execIsolatedNotice
  | isolationEndNotice => exact h.execIsolationEndNotice
  | rejoinNotice => exact h.execRejoinNotice
  | checkPassed => exact h.execCheckPassed
  | checkFailed => exact h.execCheckFailed
  | shedStartNotice => exact h.execShedStartNotice
  | shedEndNotice => exact h.execShedEndNotice
  | forceAlarmNotice => exact h.execForceAlarmNotice
  | clearedNotice => exact h.execClearedNotice
  | pselChange a b c => exact h.execPselChange a b c
  | settleTimerExpiry => exact h.leads_if fun _ => { h with }
  | profileChangeEvent => exact h.execProfileChangeEvent
  | shdLevelChange l => exact h.execShdLevelChange l
  | shdObservedAsserted => exact h.leads_settle_if h.observeAsserted
  | shdObservedReleased => exact h.leads_settle_if h.observeReleased
  | recoveryTimerExpiry => exact h.leads_settle_if { h with }
  | pwmeEdge rising => exact h.execPwmeEdge rising
  | blankingEnd => exact h.leads_settle_if { h with }
  | senseChange n => exact (leads_next ..).2 (settle { h with })
  | trip => exact h.leads_settle_if (actOnTrip { h.fire .trip with })
  | tripHoldEnd => exact h.leads_settle_if { h with }
  | cleanTimerExpiry => exact h.leads_if fun _ => { h with }
  | followTimerExpiry => exact h.leads_settle_if { h with }
  | transactionStart => exact h.execTransactionStart
  | transactionWithoutRequest => exact h.leads_if fun _ => { h with }
  | unknownRequest code => exact h.leads_if fun _ => { h with }
  | nop => exact h.leads_if fun _ => { h with }
  | readStatus => exact h.leads_answer _ _ _ _ _ fun _ _ ht => ht
  | readSnapshot ps => exact h.leads_answer _ _ _ _ _ fun _ _ ht => ht
  | readCapture => exact h.leads_answer _ _ _ _ _ fun _ _ ht => { ht with }
  | readCounters ps => exact h.leads_answer _ _ _ _ _ fun _ _ ht => ite { ht with } ht
  | configure ps => exact h.execConfigure ps
  | join => exact h.leads_answer _ _ _ _ _ fun taken _ ht => ht.beginRun taken _ _
  | leave => exact h.leads_answer _ _ _ _ _ fun taken _ ht => (ht.takeLeaveRequest taken).endOfCeEvent
  | setTarget ps => exact h.execSetTarget ps
  | reEnable => exact h.leads_answer _ _ _ _ _ fun _ _ ht => settle { ht with }
  | assertShed => exact h.leads_answer _ _ _ _ _ fun _ _ ht => settle { ht with }
  | releaseShed => exact h.leads_answer _ _ _ _ _ fun _ _ ht => settle { ht with }
  | clearAlarms ps => exact h.leads_answer _ _ _ _ _ fun _ _ ht => (ht.auNoticesTaken _).clearNamed _
  | takeSnapshot => exact h.leads_answer _ _ _ _ _ fun _ _ ht => endOfCeEvent { ht with }
  | lineCheck ps => exact h.leads_answer _ _ _ _ _ fun taken _ ht => ht.beginRun taken _ _
  | stopCheck => exact h.leads_answer _ _ _ _ _ fun _ _ ht => ht.stopRun
  | endOfFullReset => exact h.leads_if fun _ => { h with }
  | resetIgnoreEnd => exact h.leads_if fun _ => { h with }

end ClaimSound

/-- Settles O59: each command and the passing of time keep the claim within its bounds. -/
theorem claimStaysWithinItsBounds : Obligations.ClaimStaysWithinItsBounds := fun s t h hstep => by
  rcases step_cases s t hstep with ⟨c, q, n, he⟩ | ⟨n, rfl⟩
  · exact ClaimSound.exec c (s := (s.setPending q).setFreeCount n) { h with } t he
  · exact ClaimSound.tick (s := s.setFreeCount n) { h with }

end Sys2Proof.Machine
end

section
/-! ## The requests that act on the trip latch, the shed line, the alarms and the snapshot (O53) -/

namespace Sys2Proof.Machine

/-- Removing a part of a set leaves the set as it is only when the part is empty. -/
theorem and_not_part_eq_self_iff (w flags c : Word16) :
    flags &&& ~~~(w &&& flags &&& ~~~c) = flags ↔ w &&& flags &&& ~~~c = 0 := by
  constructor <;> intro h
  · calc w &&& flags &&& ~~~c
      _ = flags &&& (w &&& flags &&& ~~~c) := by ac_rfl
      _ = flags &&& ~~~(w &&& flags &&& ~~~c) &&& (w &&& flags &&& ~~~c) := by rw [h]
      _ = 0 := by rw [BitVec.and_assoc, BitVec.not_and_self]; exact BitVec.and_zero
  · rw [h]
    exact BitVec.and_allOnes

namespace State

/-! ### The standing causes -/

/-- The causes that stand, kind by kind (R169). -/
theorem holdsKind_standingCauses (s : State) (k : AlarmKind) : holdsKind s.standingCauses k = true ↔
    (k = .tripLatched ∧ s.cmon.trip = .latched) ∨ (k = .isolated ∧ s.own.isolated = true) ∨
      (k = .duplicateId ∧ s.view.duplicate.isSome = true) ∨ (k = .shedSeen ∧ s.slu.observed = .asserted) := by
  have present (p : Prop) [Decidable p] (j : AlarmKind) :
      holdsKind (if p then j.set else 0) k = true ↔ k = j ∧ p := by
    split
    · simp [holdsKind_set, *]
    · rw [holdsKind_zero]
      simp [*]
  simp only [standingCauses, holdsKind_or, Bool.or_eq_true, present, or_assoc]

theorem standingCauses_congr {s t : State} (trip : t.cmon.trip = s.cmon.trip) (isolated : t.own.isolated = s.own.isolated)
    (duplicate : t.view.duplicate = s.view.duplicate) (observed : t.slu.observed = s.slu.observed) :
    t.standingCauses = s.standingCauses := by
  rw [standingCauses, trip, isolated, duplicate, observed, standingCauses]

@[simp] theorem standingCauses_takeAu (s : State) : s.takeAu.standingCauses = s.standingCauses := rfl

@[simp] theorem standingCauses_settle (s : State) : s.settle.standingCauses = s.standingCauses :=
  standingCauses_congr s.settle_trip (by rw [settle_own]) (by rw [settle_view]) (by rw [settle_slu])

@[simp] theorem standingCauses_openIntent (s : State) : s.openIntent.standingCauses = s.standingCauses := by
  simp [openIntent, standingCauses]

@[simp] theorem standingCauses_recallIntent (s : State) : s.recallIntent.standingCauses = s.standingCauses := by
  simp [standingCauses]

@[simp] theorem standingCauses_resolveWithdrawn (s : State) : s.resolveWithdrawn.standingCauses = s.standingCauses := by
  simp [resolveWithdrawn, resolve, setIntents, standingCauses]

@[simp] theorem standingCauses_endOfCeEvent (s : State) : s.endOfCeEvent.standingCauses = s.standingCauses := by
  unfold endOfCeEvent openingTest
  split <;> simp

@[simp] theorem standingCauses_withdrawalCause (s : State) : s.withdrawalCause.standingCauses = s.standingCauses := by
  unfold withdrawalCause
  split
  case h_4 =>
    split
    · rfl
    · rw [standingCauses_recallIntent]
      rfl
  case h_5 => exact s.standingCauses_resolveWithdrawn
  all_goals rfl

theorem auNoticesTaken_standingCauses (s : State) (cleared : Word16) :
    (s.auNoticesTaken cleared).standingCauses = s.standingCauses :=
  s.auNoticesTaken_induction cleared (·.standingCauses = s.standingCauses) rfl fun t h n => by
    cases n <;> simpa [auNoticeTaken] using h

/-! ### CLEAR ALARMS after the notices that CE takes before it -/

theorem keptSet_auNoticesTaken (s : State) (cleared named : Word16) :
    (s.auNoticesTaken cleared).keptSet named = s.keptSet named := by
  rw [keptSet, auNoticesTaken_flags, auNoticesTaken_standingCauses, keptSet]

theorem clearedSet_auNoticesTaken (s : State) (cleared named : Word16) :
    (s.auNoticesTaken cleared).clearedSet named = s.clearedSet named := by
  rw [clearedSet, auNoticesTaken_flags, auNoticesTaken_standingCauses, clearedSet]

theorem keptSet_lt (s : State) (n : Nat) (h : n < 2048) : (s.keptSet (BitVec.ofNat 16 n)).toNat < 2048 := by
  rw [keptSet, BitVec.and_assoc, BitVec.toNat_and, BitVec.toNat_ofNat]
  exact Nat.lt_of_le_of_lt (Nat.and_le_left.trans (Nat.mod_le ..)) h

/-- A cleared notice is given exactly when the flags change. -/
theorem clearNamed_eq (s : State) (named : Word16) : s.clearNamed named = State.settle { s with
    au := { s.au with flags := s.au.flags &&& ~~~(s.clearedSet named) }
    notices := if s.au.flags &&& ~~~(s.clearedSet named) = s.au.flags then s.notices
      else { s.notices with au := s.notices.au ++ [.cleared] } } := by
  have unchanged : s.au.flags &&& ~~~(s.clearedSet named) = s.au.flags ↔ s.clearedSet named = 0 :=
    and_not_part_eq_self_iff ..
  simp only [clearNamed, unchanged]
  split <;> rfl

/-- The notices that CE takes are the oldest ones; they end with a force-alarm notice of a kind that is cleared, and none of those
that are left is one. -/
theorem forcedNotices_clearedSet (s : State) (w : Word16) :
    ∃ rest, s.notices.au = forcedNotices (s.clearedSet w) s.notices.au ++ rest ∧
      (∀ k, AuNotice.forceAlarm k ∈ rest → holdsKind (s.clearedSet w) k = false) ∧
      (forcedNotices (s.clearedSet w) s.notices.au = [] ∨ ∃ before k,
        forcedNotices (s.clearedSet w) s.notices.au = before ++ [.forceAlarm k] ∧ holdsKind (s.clearedSet w) k = true) := by
  obtain ⟨rest, hsplit, hrest, hlast⟩ := forcedNotices_split (s.clearedSet w) s.notices.au
  refine ⟨rest, hsplit, fun k hk => hrest _ hk, hlast.imp_right fun ⟨before, n, hfront, hforces⟩ => ?_⟩
  cases n with
  | forceAlarm k => exact ⟨before, k, hfront, hforces⟩
  | cleared => cases hforces

theorem configured_of_ne_none (s : State) (h : s.lport.config ≠ none) : s.configured = true :=
  Option.isSome_iff_ne_none.2 h

end State

/-- CLEAR ALARMS that passes every test of R174, after the notices that CE takes before it. -/
theorem execClearAlarms_of_taken (s : State) (ps : List Byte) (w : Word16) (ht : s.transactionEnds = true)
    (hlen : 2 ≤ (portParams ps).length) (hkinds : wordAt (portParams ps) 0 < 2048)
    (hw : w = BitVec.ofNat 16 (wordAt (portParams ps) 0)) :
    execClearAlarms ps s = .next (((s.endTransaction.auNoticesTaken (s.clearedSet w)).clearNamed w).respond .done
      codeClearAlarms (u16 (s.keptSet w).toNat)) := by
  have long : decide (2 ≤ (portParams ps).length) = true := decide_eq_true hlen
  have kinds : kindsOnly (wordAt (portParams ps) 0) = true := decide_eq_true hkinds
  rw [execClearAlarms, long, kinds, answer_carried _ _ _ ht, ← hw]
  dsimp only
  rw [State.keptSet_auNoticesTaken]
  rfl

/-- Settles O53: each request passes the tests of R174 and is carried out; for CLEAR ALARMS the sets of kinds are read kind by
kind. -/
theorem hostActions : Obligations.HostActions := by
  intro s u ht hu
  subst hu
  refine ⟨fun latched => ?_, fun hc => ⟨?_, ?_, ?_⟩, fun ps named cause hlen hkinds hnamed hcause => ?_⟩
  · change execReEnable s = _
    have taken : (s.cmon.trip == .latched) = true := beq_iff_eq.2 latched
    rw [execReEnable, taken, answer_carried _ _ _ ht]
    rfl
  · change execAssertShed s = _
    rw [execAssertShed, s.configured_of_ne_none hc, answer_carried _ _ _ ht]
    rfl
  · change execReleaseShed s = _
    rw [execReleaseShed, s.configured_of_ne_none hc, answer_carried _ _ _ ht]
    rfl
  · change execTakeSnapshot s = _
    rw [execTakeSnapshot, s.configured_of_ne_none hc, answer_carried _ _ _ ht]
    rfl
  · obtain ⟨w, hw⟩ : ∃ w : Word16, w = BitVec.ofNat 16 (wordAt (portParams ps) 0) := ⟨_, rfl⟩
    have holdsNamed (k : AlarmKind) : holdsKind w k = named k := by rw [hw, holdsKind_ofNat, hnamed]
    have holdsCause (k : AlarmKind) : holdsKind s.standingCauses k = cause k :=
      Bool.eq_iff_iff.2 ((s.holdsKind_standingCauses k).trans (hcause k).symm)
    have holdsCleared (k : AlarmKind) :
        holdsKind (s.clearedSet w) k = (named k && holdsKind s.au.flags k && !cause k) := by
      rw [State.clearedSet, holdsKind_and, holdsKind_and, holdsKind_not, holdsNamed, holdsCause]
    obtain ⟨rest, hsplit, hrest, hlast⟩ := s.forcedNotices_clearedSet w
    refine ⟨s.au.flags &&& ~~~(s.clearedSet w), s.keptSet w, forcedNotices (s.clearedSet w) s.notices.au, rest,
      s.endTransaction.auNoticesTaken (s.clearedSet w), hsplit, fun k hk hflag hname => ?_,
      hlast.imp_right ?_, ?_, fun k => ?_, fun k => ?_, ?_, ?_⟩
    · simpa [holdsCleared, hflag, hname] using hrest k hk
    · rintro ⟨before, k, hfront, hk⟩
      obtain ⟨⟨hname, hflag⟩, hno⟩ : (named k = true ∧ holdsKind s.au.flags k = true) ∧ cause k = false := by
        simpa [holdsCleared] using hk
      exact ⟨before, k, hfront, hflag, hname, hno⟩
    · refine List.foldl_ext _ _ _ fun t n _ => ?_
      cases n <;> rfl
    · rw [holdsKind_and, holdsKind_not, holdsCleared]
      cases holdsKind s.au.flags k <;> simp
    · rw [State.keptSet, holdsKind_and, holdsKind_and, holdsNamed, holdsCause]
    · exact hw ▸ s.keptSet_lt _ hkinds
    · change execClearAlarms ps s = _
      rw [execClearAlarms_of_taken s ps w ht hlen hkinds hw, State.clearNamed_eq, State.auNoticesTaken_flags,
        State.clearedSet_auNoticesTaken]
      rfl

end Sys2Proof.Machine
end

section
/-! ## The profile wires, the profile change event and the proportional shed (O38, O39, O40) -/

namespace Sys2Proof.Machine

namespace State

variable {s : State} {b : Nat}

/-! ### The proportional shed (R131, R132) -/

/-- Under a budget below the view total the factor of R131 is a proper fraction of 32768. -/
theorem shedFactor_le (hb : b < s.viewTotal) : 32768 * b / s.viewTotal ≤ 32767 :=
  Nat.le_of_lt_succ (Nat.div_lt_of_lt_mul (by omega))

/-- R131: a claim above the floor falls, because the factor is below 32768. -/
theorem shedClaim_lt (hb : b < s.viewTotal) (hf : s.floor < s.own.committed) : s.shedClaim b < s.own.committed := by
  have positive : 0 < s.own.committed := by omega
  have factor : 32768 * b / s.viewTotal < 32768 := Nat.lt_succ_of_le (shedFactor_le hb)
  have scaled : s.own.committed * (32768 * b / s.viewTotal) / 32768 < s.own.committed :=
    Nat.div_lt_of_lt_mul ((Nat.mul_lt_mul_of_pos_left factor positive).trans_eq (Nat.mul_comm ..))
  exact max_lt hf scaled

theorem proportionalShed_of_other (h : s.own.attach ≠ .member ∨ s.viewTotal ≤ b) : s.proportionalShed b = s :=
  if_neg fun shed => h.elim (fun hm => hm shed.1) (Nat.not_le.2 shed.2)

theorem proportionalShed_of_held (hm : s.own.attach = .member) (hb : b < s.viewTotal)
    (hc : s.own.committed ≤ s.shedClaim b) :
    s.proportionalShed b = s.setOwn { s.own with committed := s.shedClaim b } :=
  (if_pos ⟨hm, hb⟩).trans (if_neg (Nat.not_lt.2 hc))

/-- R132: the claim that has fallen is announced. -/
theorem proportionalShed_of_fall (hm : s.own.attach = .member) (hb : b < s.viewTotal)
    (hc : s.shedClaim b < s.own.committed) (hi : s.own.intentState ≠ .opening) :
    s.proportionalShed b = (s.setOwn { s.own with committed := s.shedClaim b }).request .announce :=
  ((if_pos ⟨hm, hb⟩).trans (if_pos hc)).trans (if_neg (by rwa [request_own]))

/-- R132: a fall of the claim is a withdrawal cause for an intent in OPENING. -/
theorem proportionalShed_of_fall_opening (hm : s.own.attach = .member) (hb : b < s.viewTotal)
    (hc : s.shedClaim b < s.own.committed) (hi : s.own.intentState = .opening) :
    s.proportionalShed b = ((s.setOwn { s.own with committed := s.shedClaim b }).request .announce).withdrawalCause :=
  ((if_pos ⟨hm, hb⟩).trans (if_pos hc)).trans (if_pos (by rwa [request_own]))

/-! ### The profile change event at CE (R129) -/

/-- The withdrawal of a window neither opens an intent nor ends an OPENING. -/
theorem withdrawWindow_opening (s : State) :
    s.withdrawWindow.own.intentState = .opening ↔ s.own.intentState = .opening := by
  unfold withdrawWindow
  split
  · rename_i window
    simp [resolveWithdrawn, window]
  · rfl

theorem takePfu_of_cons {e : ProfileChange} {rest : List ProfileChange} (h : s.notices.pfu = e :: rest) :
    s.takePfu = { s with notices := { s.notices with pfu := rest } } := by
  rw [takePfu, h]
  rfl

theorem exec_profileChangeEvent {e : ProfileChange} {rest : List ProfileChange} (h : s.notices.pfu = e :: rest) :
    exec .profileChangeEvent s =
      .next (if s.attached then s.takePfu.applyProfileChange e.budget else s.takePfu).endOfCeEvent := by
  change execProfileChangeEvent s = _
  simp only [execProfileChangeEvent, h]

/-! ### The profile wires (R126, R127) -/

/-- While a full reset lasts the profile shown is the index of the wires (log 5). -/
theorem exec_pselChange_of_held (a b c : Bool) (h : s.rst.held = true) :
    exec (.pselChange a b c) s = .next ((s.setPins { s.pins with psel0 := a, psel1 := b, psel2 := c }).setPfu
      { s.pfu with profile := a.toNat + 2 * b.toNat + 4 * c.toNat }) := if_pos h

/-- R126: a change of the sampled index goes to the settle timer. -/
theorem exec_pselChange_of_change (a b c : Bool) (h : s.rst.held = false)
    (hi : a.toNat + 2 * b.toNat + 4 * c.toNat ≠ sampledIndex s.pins) :
    exec (.pselChange a b c) s =
      .next (s.setPins { s.pins with psel0 := a, psel1 := b, psel2 := c }).sampleChanged :=
  (if_neg (by simp [h])).trans (if_neg hi)

/-- R127: the settle timer at 1 ms. -/
theorem exec_settleTimerExpiry (h : s.settleDue = true) : exec .settleTimerExpiry s = .next s.profileSettles := if_pos h

end State

/-- Settles O40: the shed writes the claim of R131, and the factor below 32768 makes it fall. -/
theorem proportionalShed : Obligations.ProportionalShed := by
  intro s budget hm
  refine ⟨fun hb => State.proportionalShed_of_other (.inr hb), fun hb => ?_⟩
  have claim : (s.proportionalShed budget).own.committed = s.shedClaim budget := by
    rw [State.proportionalShed_committed, if_pos ⟨hm, hb⟩]
  rw [claim]
  exact ⟨rfl, State.shedFactor_le hb, State.shedClaim_lt hb⟩

/-- Settles O38: the wires in a full reset and after it, and the settle timer at its limit. -/
theorem profileWires : Obligations.ProfileWires := by
  refine ⟨fun s a b c held => State.exec_pselChange_of_held a b c held, fun s a b c i running hi changed => ?_,
    fun s n i b hn lasted hi hb => ?_⟩
  · subst hi
    exact State.exec_pselChange_of_change a b c running changed
  · subst hi hb
    exact State.exec_settleTimerExpiry (s.settleDue_iff.2 ⟨n, hn, lasted⟩)

/-- Settles O39: the four steps in their order, the shed by the claim and the intent state that it finds. -/
theorem profileChangeTaken : Obligations.ProfileChangeTaken := by
  intro s u e rest hn hu
  rw [← State.takePfu_of_cons hn] at hu
  subst hu
  rw [State.exec_profileChangeEvent hn]
  refine ⟨fun ha => by simp [ha], fun ha v w x y hv hw hfall hopening hheld hother hy => ?_⟩
  have window : w = s.takePfu.unrefresh.withdrawWindow := by
    subst hv hw
    rfl
  obtain ⟨-, attach, -⟩ := s.takePfu.unrefresh.withdrawWindow_claim
  rw [← window] at attach
  have opening : w.own.intentState = .opening ↔ s.own.intentState = .opening := by
    rw [window]
    exact s.takePfu.unrefresh.withdrawWindow_opening
  have shed : x = w.proportionalShed e.budget := by
    by_cases hm : s.own.attach = .member
    · have member : w.own.attach = .member := attach.trans hm
      rcases Nat.lt_or_ge e.budget w.viewTotal with above | within
      · rcases Nat.lt_or_ge (w.shedClaim e.budget) w.own.committed with falls | held
        · by_cases hi : s.own.intentState = .opening
          · rw [hopening hm above falls hi, State.proportionalShed_of_fall_opening member above falls (opening.2 hi)]
            rfl
          · rw [hfall hm above falls hi, State.proportionalShed_of_fall member above falls (mt opening.1 hi)]
            rfl
        · rw [hheld hm above held, State.proportionalShed_of_held member above held]
          rfl
      · rw [hother (.inr within), State.proportionalShed_of_other (.inr within)]
    · rw [hother (.inl hm), State.proportionalShed_of_other (.inl (attach.trans_ne hm))]
  rw [if_pos ha, hy, shed, window]
  rfl

end Sys2Proof.Machine
end

section
/-! ## The outputs follow the state (O23) -/

namespace Sys2Proof.Machine

namespace State

variable {s : State}

/-! ### The effective reference and the gate -/

theorem forced_iff (s : State) :
    s.forced = true ↔ s.shedInEffect = true ∨ s.own.isolated = true ∨ s.au.flags &&& s.au.forceMask ≠ 0 := by
  simp [forced, forceSet, or_assoc]

theorem referenceClaim_of_not_member (h : s.own.attach ≠ .member) : s.referenceClaim = 0 := if_neg h

theorem referenceClaim_of_forced (h : s.own.attach = .member) (hf : s.forced = true) : s.referenceClaim = s.floor :=
  (if_pos h).trans (if_pos hf)

theorem referenceClaim_of_free (h : s.own.attach = .member) (hf : ¬ s.forced = true) : s.referenceClaim = s.own.committed :=
  (if_pos h).trans (if_neg hf)

theorem gateOf_iff (s : State) : s.gateOf = true ↔ s.own.attach = .member ∧ s.cmon.trip = .clear := by simp [gateOf]

theorem evaluated_eq_false_iff (s : State) : s.evaluated = false ↔ s.own.attach ≠ .member ∨ s.cmon.trip = .latched := by
  by_cases h : s.own.attach = .member <;> simp [evaluated, h]

@[simp] theorem settle_evaluated (s : State) : s.settle.evaluated = s.evaluated := by simp [evaluated]

@[simp] theorem settle_blanked (s : State) : s.settle.blanked = s.blanked := by simp [blanked]

/-! ### The grace value and the follow timer (R152) -/

theorem graceStep_of_not_member (old new : Nat) (h : s.own.attach ≠ .member) : s.graceStep old new = (0, none) := if_pos h

variable {old new : Nat}

theorem graceStep_of_fall (h : s.own.attach = .member) (fall : new < old) :
    s.graceStep old new =
      if s.followTime = 0 then (s.cmon.grace, s.cmon.follow) else (max s.cmon.grace old, some s.followTime) :=
  (if_neg (not_not.2 h)).trans (if_pos fall)

theorem graceStep_of_overtaken (h : s.own.attach = .member) (rise : old < new) (reached : s.cmon.grace ≤ new) :
    s.graceStep old new = (0, none) :=
  (if_neg (not_not.2 h)).trans ((if_neg (Nat.lt_asymm rise)).trans (if_pos ⟨rise, reached⟩))

/-- Without a fall, and without a rise to the grace value, grace value and follow timer stay. -/
theorem graceStep_of_kept (h : s.own.attach = .member) (noFall : old ≤ new) (below : old < new → new < s.cmon.grace) :
    s.graceStep old new = (s.cmon.grace, s.cmon.follow) :=
  (if_neg (not_not.2 h)).trans
    ((if_neg (Nat.not_lt.2 noFall)).trans (if_neg fun ⟨rise, reached⟩ => Nat.not_le.2 (below rise) reached))

theorem settle_grace_follow (s : State) :
    (s.settle.cmon.grace, s.settle.cmon.follow) = s.graceStep s.oc.effRef s.settle.oc.effRef := by
  rw [s.settle_grace, s.settle_follow, s.settle_oc]

/-! ### The qualification (R154) -/

/-- When the qualification goes back to its start: the comparator is not evaluated, or it is read and not over. -/
theorem settle_notOver_iff (s : State) :
    (!s.settle.evaluated || (!s.settle.blanked && !s.settle.comparatorOver)) = true ↔
      (s.own.attach ≠ .member ∨ s.cmon.trip = .latched) ∨ (s.cmon.blanking = none ∧ s.pins.sense ≤ s.settle.threshold) := by
  simp [← evaluated_eq_false_iff, blanked, comparatorOver]

theorem settle_qualify_of_notOver
    (h : (s.own.attach ≠ .member ∨ s.cmon.trip = .latched) ∨ (s.cmon.blanking = none ∧ s.pins.sense ≤ s.settle.threshold)) :
    s.settle.cmon.qualify = 0 ∧ s.settle.cmon.armed = true ∧ s.settle.cmon.reached = false := by
  simpa only [if_pos (s.settle_notOver_iff.2 h)] using s.settle_qualify

theorem settle_qualify_of_over (member : s.own.attach = .member) (trip : s.cmon.trip ≠ .latched)
    (exceeds : s.cmon.blanking ≠ none ∨ s.settle.threshold < s.pins.sense) :
    s.settle.cmon.qualify = s.cmon.qualify ∧ s.settle.cmon.armed = s.cmon.armed ∧ s.settle.cmon.reached = s.cmon.reached := by
  have stays : ¬ (!s.settle.evaluated || (!s.settle.blanked && !s.settle.comparatorOver)) = true := by
    rw [s.settle_notOver_iff, not_or, not_or, not_and_or, not_le]
    exact ⟨⟨not_not.2 member, trip⟩, exceeds⟩
  simpa only [if_neg stays] using s.settle_qualify

theorem settle_threshold (s : State) : s.settle.threshold =
    min 4095 (max s.settle.oc.effRef s.settle.cmon.grace + ((s.lport.config.map (·.tripMargin)).getD 0)) := by
  rw [threshold, readConfig, settle_lport]

end State

/-- Settles O23: each output by the rule that it follows. -/
theorem outputsSettle : Obligations.OutputsSettle := by
  rintro s t rfl
  have effRef : s.settle.oc.effRef = s.referenceClaim := by rw [s.settle_oc]
  have gate : s.settle.oc.gate = s.gateOf := by rw [s.settle_oc]
  have grace := s.settle_grace_follow
  refine ⟨s.settle_frame, s.settle_au, s.settle_slu, fun away => ?_, fun member forced => ?_, fun member shed isolated force => ?_,
    ?_, s.settle_cmon_frame, fun away => ?_, fun member fall => ⟨fun still => ?_, fun runs => ?_⟩,
    fun member rise => ⟨fun reached => ?_, fun below => ?_⟩, fun member same => ?_, s.settle_threshold,
    State.settle_qualify_of_notOver, State.settle_qualify_of_over, ?_, rfl, fun inRange => ?_⟩
  · exact effRef.trans (State.referenceClaim_of_not_member away)
  · exact effRef.trans (State.referenceClaim_of_forced member (s.forced_iff.2 forced))
  · exact effRef.trans (State.referenceClaim_of_free member (by simp [s.forced_iff, shed, isolated, force]))
  · rw [gate]
    exact s.gateOf_iff
  · exact Prod.mk.inj (grace.trans (State.graceStep_of_not_member _ _ away))
  · exact Prod.mk.inj (grace.trans ((State.graceStep_of_fall member fall).trans (if_pos still)))
  · exact Prod.mk.inj (grace.trans ((State.graceStep_of_fall member fall).trans (if_neg runs)))
  · exact Prod.mk.inj (grace.trans (State.graceStep_of_overtaken member rise reached))
  · exact Prod.mk.inj (grace.trans (State.graceStep_of_kept member rise.le fun _ => below))
  · exact Prod.mk.inj (grace.trans (State.graceStep_of_kept member same.ge fun rise => absurd same.symm rise.ne))
  · simp [State.alertHigh, s.settle_au, State.alertOf, State.notifySet]
  · rw [State.limref, BitVec.toNat_ofNat, Nat.mod_eq_of_lt (by omega)]

end Sys2Proof.Machine
end

section
/-! ## The outputs agree with the state after every step (O55)

Whatever an event has done, settling the outputs makes them agree. So a command that settles at its end needs no premise, and of the
others it is enough that they leave alone what the outputs follow. -/

namespace Sys2Proof.Machine

/-- The effective reference follows the attach state, the claim, the force conditions and the floor (R148). -/
theorem State.referenceClaim_congr {s t : State} (own : t.own = s.own) (shed : t.shedInEffect = s.shedInEffect)
    (flags : t.au.flags = s.au.flags) (mask : t.au.forceMask = s.au.forceMask) (config : t.lport.config = s.lport.config) :
    t.referenceClaim = s.referenceClaim := by
  have forced : t.forced = s.forced := by rw [forced, shed, own, forceSet, flags, mask, State.forced, forceSet]
  have floor : t.floor = s.floor := by rw [State.floor, readConfig, config, State.floor, readConfig]
  rw [referenceClaim, own, forced, floor, referenceClaim]

namespace OutputsAgree

variable {s t : State}

/-- The outputs agree after every settling, whatever was before it. -/
theorem settle (s : State) : OutputsAgree s.settle where
  reference := by
    rw [State.settle_oc]
    refine (State.referenceClaim_congr s.settle_own ?_ ?_ ?_ (by rw [s.settle_lport])).symm
    · simp [State.shedInEffect, State.settle_slu]
    · rw [State.settle_au]
    · rw [State.settle_au]
  gate := by simp [State.gateOf, State.settle_oc]
  alert := by simp [State.alertOf, State.notifySet, State.settle_au]
  drive := by simp [State.drivesShd, State.configured, State.lineSet, State.settle_slu, State.settle_au]
  noGrace := fun away => Prod.mk.inj (s.settle_grace_follow.trans (State.graceStep_of_not_member _ _ (by simpa using away)))
  notEvaluated := fun off => by simpa [off] using s.settle_qualify

theorem endOfCeEvent (s : State) : OutputsAgree s.endOfCeEvent := settle s.openingTest

/-- What leaves alone the units whose values the outputs show or follow, and the configuration. -/
theorem frame (h : OutputsAgree s) (own : t.own = s.own := by simp) (slu : t.slu = s.slu := by simp)
    (oc : t.oc = s.oc := by simp) (cmon : t.cmon = s.cmon := by simp) (au : t.au = s.au := by simp)
    (config : t.lport.config = s.lport.config := by simp) : OutputsAgree t where
  reference := by
    rw [oc, h.reference]
    exact (State.referenceClaim_congr own (by rw [State.shedInEffect, slu, State.shedInEffect]) (by rw [au]) (by rw [au])
      config).symm
  gate := by rw [oc, h.gate, State.gateOf, State.gateOf, own, cmon]
  alert := by rw [au, h.alert, State.alertOf, State.alertOf, State.notifySet, State.notifySet, au]
  drive := by
    rw [slu, h.drive]
    simp only [State.drivesShd, State.configured, State.lineSet, own, slu, au, config]
  noGrace := by rw [own, cmon]; exact h.noGrace
  notEvaluated := by
    rw [cmon, State.evaluated, own, cmon]
    exact h.notEvaluated

theorem ite {p : Prop} [Decidable p] (ht : OutputsAgree t) (hs : OutputsAgree s) : OutputsAgree (if p then t else s) := by
  split
  · exact ht
  · exact hs

/-! ### The requests whose effect ends with the outputs -/

theorem storeConfig (s : State) (c : ConfigRecord) : OutputsAgree (s.storeConfig c) := settle _

theorem releaseLatch (s : State) : OutputsAgree s.releaseLatch := settle _

theorem setHostShed (s : State) (b : Bool) : OutputsAgree (s.setHostShed b) := settle _

theorem clearNamed (s : State) (named : Word16) : OutputsAgree (s.clearNamed named) := settle _

/-! ### What settles nothing -/

/-- The qualify count stands still while the comparator is not evaluated, and a stopped timer stays stopped. -/
theorem tick (h : OutputsAgree s) : OutputsAgree s.tick := by
  refine ite h ?_
  have shed : State.shedInEffect { s with slu := s.tickSlu } = s.shedInEffect := by
    simp [State.shedInEffect, State.tickSlu]
  have claim : State.referenceClaim { s with slu := s.tickSlu } = s.referenceClaim :=
    State.referenceClaim_congr rfl shed rfl rfl rfl
  exact
    { h with
      reference := h.reference.trans claim.symm
      noGrace := fun away => by
        obtain ⟨grace, follow⟩ := h.noGrace away
        exact ⟨grace, by simp [State.tickCmon, follow, countDown]⟩
      notEvaluated := fun off => by
        have off : s.evaluated = false := off
        obtain ⟨qualify, armed, reached⟩ := h.notEvaluated off
        exact ⟨by simp [State.tickCmon, State.qualifying, off, qualify], armed, reached⟩ }

theorem attemptFailed (h : OutputsAgree s) (k : FrameKind) (raise : PendEntry → PendEntry) :
    OutputsAgree (s.attemptFailed k raise) := h.frame

theorem loseArbitration (h : OutputsAgree s) (k : FrameKind) : OutputsAgree (s.loseArbitration k) := by
  refine ite ?_ (attemptFailed ?_ _ _)
  all_goals exact { h with }

theorem request (h : OutputsAgree s) (k : FrameKind) : OutputsAgree (s.request k) := h.frame

theorem beginRun (h : OutputsAgree s) (m : CheckMode) (o : CheckOwner) : OutputsAgree (s.beginRun m o) := by
  refine request (s := (s.setLtx _).setLrx _) ?_ .check
  exact { h with }

theorem nextCheck (h : OutputsAgree s) : OutputsAgree s.nextCheck := by
  refine request (s := s.setLtx _) ?_ .check
  exact { h with }

theorem stopRun (h : OutputsAgree s) : OutputsAgree s.stopRun := by
  unfold State.stopRun
  split
  · exact h
  · split
    · exact { h with }
    · refine ite ?_ ?_
      all_goals exact { h with }
    · exact h

theorem frameStart (h : OutputsAgree s) (ht : s.frameStart = some t) : OutputsAgree t := by
  rcases (s.frameStart_eq_some_iff t).1 ht with ⟨-, rfl⟩ | ⟨-, -, -, rfl⟩
  · exact h.frame
  · exact h

/-! ### What each command leaves -/

/-- A command whose occasion is absent changes nothing. -/
theorem stays (h : OutputsAgree s) : Leads (.next s) OutputsAgree := (leads_next ..).2 h

theorem leads_settle (t : State) : Leads (.next t.settle) OutputsAgree := (leads_next ..).2 (settle t)

theorem leads_ceEvent (t : State) : Leads (.next t.endOfCeEvent) OutputsAgree := (leads_next ..).2 (endOfCeEvent t)

theorem leads_if {b : Bool} (h : OutputsAgree s) (ht : OutputsAgree t) :
    Leads (if b then .next t else .next s) OutputsAgree := leads_ite (fun _ => ht) h

theorem leads_settle_if {b : Bool} (h : OutputsAgree s) (t : State) :
    Leads (if b then .next t.settle else .next s) OutputsAgree := h.leads_if (settle t)

/-- The transaction and the response are no part of what the outputs follow. -/
theorem leads_answer (h : OutputsAgree s) (request : Byte) (enough taken inRange : Bool) (carry : State → Carried)
    (carried : ∀ t, OutputsAgree t → OutputsAgree (carry t).state) :
    Leads (.next (s.answer request enough taken inRange carry)) OutputsAgree := by
  have ended : OutputsAgree s.endTransaction := { h with }
  have answers {t : State} (ht : OutputsAgree t) (code : RespCode) (data : List Byte) :
      OutputsAgree (t.respond code request data) := { ht with }
  refine (leads_next ..).2 (s.answer_induction OutputsAgree request enough taken inRange carry h ?_ ?_)
  · exact fun code => answers ended code []
  · exact fun _ _ _ _ => answers (carried _ ended) _ _

theorem execStartDelimiter (h : OutputsAgree s) : Leads (execStartDelimiter s) OutputsAgree := by
  unfold Machine.execStartDelimiter
  split
  · exact h.stays
  · rename_i t ht
    exact (leads_next ..).2 { h.frameStart ht with }

theorem execMalformedStart (h : OutputsAgree s) : Leads (execMalformedStart s) OutputsAgree := by
  unfold Machine.execMalformedStart
  split
  · exact h.stays
  · exact leads_settle _

theorem execViolation (h : OutputsAgree s) : Leads (execViolation s) OutputsAgree := by
  unfold Machine.execViolation
  split
  · exact leads_settle _
  all_goals exact h.stays

theorem execTooLong (h : OutputsAgree s) : Leads (execTooLong s) OutputsAgree := by
  unfold Machine.execTooLong
  split
  · split
    · exact leads_settle _
    · exact h.stays
  all_goals exact h.stays

theorem execEndDelimiter (h : OutputsAgree s) : Leads (execEndDelimiter s) OutputsAgree := by
  unfold Machine.execEndDelimiter
  split
  · exact leads_settle _
  all_goals exact h.leads_settle_if _

theorem execLineIdle (h : OutputsAgree s) : Leads (execLineIdle s) OutputsAgree := by
  unfold Machine.execLineIdle
  split
  · split
    all_goals exact (leads_next ..).2 h.frame
  · exact h.stays

theorem execWholeByte (h : OutputsAgree s) (b : Byte) : Leads (execWholeByte b s) OutputsAgree := by
  unfold Machine.execWholeByte
  split
  · split
    · dsimp only
      split
      all_goals exact (leads_next ..).2 { h with }
    · exact leads_settle _
  all_goals exact h.stays

theorem execAttemptStart (h : OutputsAgree s) : Leads (execAttemptStart s) OutputsAgree := by
  unfold Machine.execAttemptStart
  split
  · exact h.stays
  · exact (leads_next ..).2 { h with }

theorem execLostArbitration (h : OutputsAgree s) : Leads (execLostArbitration s) OutputsAgree := by
  unfold Machine.execLostArbitration
  split
  · exact h.stays
  · exact (leads_next ..).2 (h.loseArbitration _)

theorem execTransmitFault (h : OutputsAgree s) : Leads (execTransmitFault s) OutputsAgree := by
  unfold Machine.execTransmitFault
  split
  · exact h.stays
  · exact leads_settle _

theorem execPselChange (h : OutputsAgree s) (a b c : Bool) : Leads (execPselChange a b c s) OutputsAgree := by
  unfold Machine.execPselChange
  dsimp only
  split
  · exact (leads_next ..).2 { h with }
  · split
    · exact h.stays
    · exact (leads_next ..).2 { h with }

/-- An observation that is due settles the outputs; the level and the filter are no part of what they follow. -/
theorem execShdLevelChange (h : OutputsAgree s) (l : Level) : Leads (execShdLevelChange l s) OutputsAgree := by
  have observed : OutputsAgree s.observesDue := ite (settle _) (ite (settle _) h)
  unfold Machine.execShdLevelChange
  split
  · exact (leads_next ..).2 { h with }
  · split
    · exact h.stays
    · exact (leads_next ..).2 { observed with }

theorem execPwmeEdge (h : OutputsAgree s) (rising : Bool) : Leads (execPwmeEdge rising s) OutputsAgree := by
  unfold Machine.execPwmeEdge
  dsimp only
  split
  · exact (leads_next ..).2 { h with }
  · split
    all_goals exact leads_settle _

theorem execTransactionStart (h : OutputsAgree s) : Leads (execTransactionStart s) OutputsAgree := by
  unfold Machine.execTransactionStart
  split
  · exact h.stays
  · exact (leads_next ..).2 { h with }

theorem execPeerLost (h : OutputsAgree s) (id : Nat) : Leads (execPeerLost id s) OutputsAgree := by
  unfold Machine.execPeerLost
  split
  · exact h.stays
  · exact h.leads_settle_if _

theorem execPeerForgotten (h : OutputsAgree s) (id : Nat) : Leads (execPeerForgotten id s) OutputsAgree := by
  unfold Machine.execPeerForgotten
  split
  · exact h.stays
  · exact h.leads_settle_if _

theorem execShedEndNotice (h : OutputsAgree s) : Leads (execShedEndNotice s) OutputsAgree := by
  unfold Machine.execShedEndNotice
  split
  · split
    · exact h.stays
    · exact leads_ceEvent _
  · exact h.stays

/-- Every command keeps the agreement. -/
theorem exec (c : Instr) (h : OutputsAgree s) : Leads (exec c s) OutputsAgree := by
  cases c with
  | fullReset => exact (leads_next ..).2 { OutputsAgree.reset with }
  | startDelimiter => exact h.execStartDelimiter
  | malformedStart => exact h.execMalformedStart
  | violation => exact h.execViolation
  | tooLong => exact h.execTooLong
  | endDelimiter => exact h.execEndDelimiter
  | lineIdle => exact h.execLineIdle
  | wholeByte b => exact h.execWholeByte b
  | sdlDominant => exact (leads_next ..).2 h.frame
  | attemptStart => exact h.execAttemptStart
  | lostArbitration => exact h.execLostArbitration
  | transmitFault => exact h.execTransmitFault
  | announceTimerExpiry => exact h.leads_if h.frame
  | repeatTimerExpiry => exact h.leads_if h.nextCheck
  -- A record that CE takes ends an event of CE.
  | takeAnnounce | takeIntent | takeSettle | takeLeave | takeOwnRecord | takeDuplicateRecord | takeErrorRecord | takeLossRecord
  | takeCheckRecord =>
    dsimp only [Machine.exec, execTakeAnnounce, execTakeIntent, execTakeSettle, execTakeLeave, execTakeOwnRecord,
      execTakeDuplicateRecord, execTakeErrorRecord, execTakeLossRecord, execTakeCheckRecord]
    split
    · exact leads_ceEvent _
    all_goals exact h.stays
  -- So does a notice.
  | sentNotice | droppedNotice | recalledNotice | isolatedNotice | isolationEndNotice | rejoinNotice | checkPassed | checkFailed
  | shedStartNotice | forceAlarmNotice | clearedNotice | profileChangeEvent =>
    dsimp only [Machine.exec, execSentNotice, execDroppedNotice, execRecalledNotice, execIsolatedNotice,
      execIsolationEndNotice, execRejoinNotice, execCheckPassed, execCheckFailed, execShedStartNotice, execForceAlarmNotice,
      execClearedNotice, execProfileChangeEvent]
    split
    · exact leads_ceEvent _
    · exact h.stays
  | shedEndNotice => exact h.execShedEndNotice
  | peerLost id => exact h.execPeerLost id
  | peerForgotten id => exact h.execPeerForgotten id
  -- A timer of CE, an observation of SHD and an event of CMON settle the outputs when they are due.
  | holdWindowExpiry | retryTimerExpiry | listenTimerExpiry | duplicateTimerExpiry | shdObservedAsserted | shdObservedReleased
  | recoveryTimerExpiry | blankingEnd | trip | tripHoldEnd | followTimerExpiry => exact h.leads_settle_if _
  | senseChange n => exact leads_settle _
  | pwmeEdge rising => exact h.execPwmeEdge rising
  | pselChange a b c => exact h.execPselChange a b c
  | shdLevelChange l => exact h.execShdLevelChange l
  -- These change nothing that the outputs follow.
  | isolationTimer3P | isolationTimer40P | settleTimerExpiry | cleanTimerExpiry | transactionWithoutRequest | unknownRequest _
  | nop | endOfFullReset | resetIgnoreEnd => exact h.leads_if { h with }
  | transactionStart => exact h.execTransactionStart
  | readStatus => exact h.leads_answer _ _ _ _ _ fun _ ht => ht
  | readSnapshot ps => exact h.leads_answer _ _ _ _ _ fun _ ht => ht
  | readCapture => exact h.leads_answer _ _ _ _ _ fun _ ht => { ht with }
  | readCounters ps => exact h.leads_answer _ _ _ _ _ fun _ ht => ite { ht with } ht
  | join => exact h.leads_answer _ _ _ _ _ fun _ ht => ht.beginRun _ _
  | lineCheck ps => exact h.leads_answer _ _ _ _ _ fun _ ht => ht.beginRun _ _
  | stopCheck => exact h.leads_answer _ _ _ _ _ fun _ ht => ht.stopRun
  | configure ps => exact h.leads_answer _ _ _ _ _ fun t _ => storeConfig t _
  | leave => exact h.leads_answer _ _ _ _ _ fun t _ => endOfCeEvent t.takeLeaveRequest
  | setTarget ps => exact h.leads_answer _ _ _ _ _ fun t _ => endOfCeEvent (t.applyTarget _ _)
  | reEnable => exact h.leads_answer _ _ _ _ _ fun t _ => releaseLatch t
  | assertShed => exact h.leads_answer _ _ _ _ _ fun t _ => setHostShed t true
  | releaseShed => exact h.leads_answer _ _ _ _ _ fun t _ => setHostShed t false
  | clearAlarms ps => exact h.leads_answer _ _ _ _ _ fun t _ => clearNamed (t.auNoticesTaken _) _
  | takeSnapshot => exact h.leads_answer _ _ _ _ _ fun t _ => endOfCeEvent t.snapshotTaken

end OutputsAgree

/-- Settles O55: a command either settles the outputs or leaves what they follow alone, and so does the passing of time. -/
theorem outputsAlwaysAgree : Obligations.OutputsAlwaysAgree := fun s t h hstep => by
  rcases step_cases s t hstep with ⟨c, q, n, he⟩ | ⟨n, rfl⟩
  · exact OutputsAgree.exec c (s := (s.setPending q).setFreeCount n) { h with } t he
  · exact OutputsAgree.tick (s := s.setFreeCount n) { h with }

end Sys2Proof.Machine
end

section
/-! ## The shed line: its filter, its two observations and the recovery timer (O41) -/

namespace Sys2Proof.Machine

theorem observedOf_eq_iff (l : Level) (o : ShdObserved) : observedOf l = o ↔ (l = .dominant ↔ o = .asserted) := by
  cases l <;> cases o <;> decide

namespace State

variable {s : State}

/-! ### An observed change that is due (R140) -/

theorem exec_shdObservedAsserted (h : s.assertedDue = true) : exec .shdObservedAsserted s = .next s.observeAsserted.settle :=
  if_pos h

theorem exec_shdObservedReleased (h : s.releasedDue = true) : exec .shdObservedReleased s = .next s.observeReleased.settle :=
  if_pos h

/-! ### What a change of level finds (log 44) -/

theorem observesDue_of_none (h : s.filterDue = false) : s.observesDue = s := by
  simp [observesDue, assertedDue, releasedDue, h]

theorem observesDue_of_asserted (h : s.assertedDue = true) : s.observesDue = s.observeAsserted.settle := if_pos h

theorem observesDue_of_released (h : s.releasedDue = true) : s.observesDue = s.observeReleased.settle := by
  obtain ⟨-, observed, -⟩ := s.releasedDue_iff.1 h
  have other : ¬ s.assertedDue = true := by simp [assertedDue, observed]
  exact (if_neg other).trans (if_pos h)

@[simp] theorem observesDue_pins (s : State) : s.observesDue.pins = s.pins := by
  rcases s.observesDue_cases with ⟨-, h⟩ | ⟨-, -, h⟩ | ⟨-, -, h⟩
  · rw [h]
  · simp [h, observeAsserted, giveSlu]
  · rw [h, settle_pins, observeReleased]
    split <;> rfl

theorem exec_shdLevelChange {l : Level} (run : s.rst.held = false) (change : s.pins.shd ≠ l) :
    exec (.shdLevelChange l) s = .next (s.observesDue.shdTurns l) :=
  (if_neg (by simp [run])).trans (if_neg change)

/-- The new level is timed from its start, against the observed state that the change has found. -/
theorem observesDue_shdTurns (s : State) (l : Level) : s.observesDue.shdTurns l = { s.observesDue with
    pins := { s.pins with shd := l }
    slu := { s.observesDue.slu with
      filter := if (l = .dominant ↔ s.observesDue.slu.observed = .asserted) then none else some 0 } } := by
  rw [shdTurns_eq, observesDue_pins]
  simp only [observedOf_eq_iff]

theorem shedInEffect_iff (s : State) : s.shedInEffect = true ↔ s.slu.observed = .asserted ∨ s.slu.recovery.isSome = true := by
  simp [shedInEffect]

end State

/-- Settles O41: a change of level finds nothing due, the assertion or the release; each observation then acts by its own rule. -/
theorem shedLine : Obligations.ShedLine := by
  refine ⟨fun s l held => if_pos held, fun s u l due run change hdue found => ?_, fun s n hn lasted dominant released => ?_,
    fun s n hn lasted recessive asserted => ?_, fun s expires => ?_, State.shedInEffect_iff⟩
  · have observes : s.observesDue = u := by
      rcases found with ⟨same, quiet⟩ | ⟨exec, lasted, level, observed⟩ | ⟨exec, lasted, level, observed⟩
      · refine (State.observesDue_of_none (Bool.eq_false_iff.2 fun h => ?_)).trans same.symm
        obtain ⟨lasted, differs⟩ := s.filterDue_eq_true_iff.1 h
        exact quiet.elim (absurd (hdue.2 lasted)) fun agree => differs ((observedOf_eq_iff ..).2 agree)
      · have asserts := s.assertedDue_iff.2 ⟨level, observed, hdue.1 lasted⟩
        rw [State.exec_shdObservedAsserted asserts] at exec
        exact (State.observesDue_of_asserted asserts).trans (Host.Outcome.next.inj exec)
      · have releases := s.releasedDue_iff.2 ⟨level, observed, hdue.1 lasted⟩
        rw [State.exec_shdObservedReleased releases] at exec
        exact (State.observesDue_of_released releases).trans (Host.Outcome.next.inj exec)
    rw [State.exec_shdLevelChange run change, s.observesDue_shdTurns, observes]
  · exact State.exec_shdObservedAsserted (s.assertedDue_iff.2 ⟨dominant, released, n, hn, lasted⟩)
  · rw [State.exec_shdObservedReleased (s.releasedDue_iff.2 ⟨recessive, asserted, n, hn, lasted⟩), State.observeReleased]
    exact ⟨fun configured => by rw [if_pos configured]; rfl, fun bare => by rw [if_neg (by simp [bare])]; rfl⟩
  · exact if_pos ((expired_eq_true_iff _).2 expires)

end Sys2Proof.Machine
end

section
/-! ## The Current Monitor: the edges of PWME, the ends of its timers, and the trip (O42, O43) -/

namespace Sys2Proof.Machine

namespace State

variable {s : State}

/-! ### An edge of PWME (R153, R156, R157) -/

/-- Without a configuration there is no blanking code, and an edge blanks nothing (log 18). -/
theorem blankingAtEdge_of_bare (bare : s.lport.config = none) : s.blankingAtEdge = none := by
  simp [blankingAtEdge, readConfig, bare, blankingTicks]

theorem blankingAtEdge_of_config {c : ConfigRecord} (hc : s.lport.config = some c) :
    s.blankingAtEdge = if blankingTicks c.blanking = 0 then none else some (blankingTicks c.blanking) := by
  rw [blankingAtEdge, readConfig_of_some s c hc]

/-- The condition of a trip as the value that an edge keeps in `reached` (log 30). -/
theorem tripDue_eq (s : State) : s.tripDue = (s.own.attach == .member && s.cmon.trip != .latched &&
    (s.cmon.reached || (s.cmon.blanking.isNone && decide (s.threshold < s.pins.sense) && s.cmon.armed &&
      decide (s.qualifyTime ≤ s.cmon.qualify)))) := by
  rw [Bool.eq_iff_iff, tripDue_iff]
  simp [and_assoc]

/-- What every edge does, before it may end a hold: it starts the blanking and keeps a trip that was due. -/
def edgeTaken (s : State) (rising : Bool) : State :=
  { s with
    pins := { s.pins with pwme := rising }
    cmon := { s.cmon with blanking := s.blankingAtEdge, reached := s.tripDue } }

theorem exec_pwmeEdge_held (rising : Bool) (held : s.rst.held = true) :
    exec (.pwmeEdge rising) s = .next { s with pins := { s.pins with pwme := rising } } := if_pos held

theorem exec_pwmeEdge_running (rising : Bool) (run : s.rst.held = false) : exec (.pwmeEdge rising) s =
    if rising && s.cmon.trip == .hold && s.cmon.holdEdge then .next (s.edgeTaken rising).endHold.settle
    else .next (s.edgeTaken rising).settle := if_neg (by simp [run])

/-- A rising edge ends the hold of RETRY_EDGE (R156). -/
theorem exec_pwmeEdge_endsHold (run : s.rst.held = false) (hold : s.cmon.trip = .hold) (edge : s.cmon.holdEdge = true) :
    exec (.pwmeEdge true) s = .next (s.edgeTaken true).endHold.settle := by
  rw [exec_pwmeEdge_running true run, if_pos (by simp [hold, edge])]

theorem exec_pwmeEdge_keepsHold {rising : Bool} (run : s.rst.held = false)
    (keeps : rising = false ∨ s.cmon.trip ≠ .hold ∨ s.cmon.holdEdge = false) :
    exec (.pwmeEdge rising) s = .next (s.edgeTaken rising).settle := by
  rw [exec_pwmeEdge_running rising run, if_neg]
  rcases keeps with falling | away | noEdge
  · simp [falling]
  · simp [away]
  · simp [noEdge]

/-! ### What a trip does (R155, R156, R159) -/

/-- Steps 1 to 4 of R155, element by element. -/
theorem countTrip_eq (s : State) : s.countTrip = { fire .trip s with
    lport := { s.lport with counters := { s.lport.counters with trips := min 65535 (s.lport.counters.trips + 1) } }
    cmon := { s.cmon with
      consecutive := min 255 (s.cmon.consecutive + 1), clean := some (10 * msTicks), qualify := 0, armed := false
      reached := false } } := by
  rw [countTrip, setCounters, fire_lport, fire_cmon]
  rfl

@[simp] theorem countTrip_config (s : State) : s.countTrip.lport.config = s.lport.config := by rw [countTrip_eq]

@[simp] theorem countTrip_consecutive (s : State) : s.countTrip.cmon.consecutive = min 255 (s.cmon.consecutive + 1) := by
  rw [countTrip_eq]

theorem tripMode_of_config {c : ConfigRecord} (hc : s.lport.config = some c) : s.tripMode = tripModeOf c.tripMode := by
  rw [tripMode, readConfig_of_some s c hc]

theorem limitReached_iff {c : ConfigRecord} (hc : s.lport.config = some c) :
    s.limitReached = true ↔ c.retryLimit ≤ s.cmon.consecutive := by
  rw [limitReached, readConfig_of_some s c hc, decide_eq_true_eq]

/-- The codes from 2 on are those of the RETRY modes. -/
theorem tripModeOf_isRetry : ∀ {n : Nat}, 2 ≤ n → tripModeOf n ≠ .report ∧ tripModeOf n ≠ .latch
  | 2, _ => by decide
  | 3, _ => by decide
  | _ + 4, _ => ⟨nofun, nofun⟩

theorem actOnTrip_of_report (mode : s.tripMode = .report) : s.actOnTrip = s := by rw [actOnTrip, mode]

theorem actOnTrip_of_latch (mode : s.tripMode = .latch) : s.actOnTrip = s.latchTrip := by rw [actOnTrip, mode]

/-- The three RETRY modes differ in their holds alone. -/
theorem actOnTrip_of_retry (retry : s.tripMode ≠ .report ∧ s.tripMode ≠ .latch) :
    s.actOnTrip = if s.limitReached then fire .overdrawPersistent s.latchTrip else s.holdTrip s.tripMode := by
  obtain ⟨notReport, notLatch⟩ := retry
  unfold actOnTrip
  cases mode : s.tripMode with
  | report => exact absurd mode notReport
  | latch => exact absurd mode notLatch
  | retry20 | retry50 | retryEdge => rfl

theorem exec_trip (due : s.tripDue = true) : exec .trip s = .next s.countTrip.actOnTrip.settle := if_pos due

section
variable {c : ConfigRecord} (due : s.tripDue = true) (hc : s.lport.config = some c)
include due hc

theorem exec_trip_report (mode : c.tripMode = 0) : exec .trip s = .next s.countTrip.settle := by
  have report : s.countTrip.tripMode = .report := by rw [tripMode_of_config (by simpa using hc), mode]; rfl
  rw [exec_trip due, actOnTrip_of_report report]

theorem exec_trip_latch (mode : c.tripMode = 1) : exec .trip s = .next s.countTrip.latchTrip.settle := by
  have latch : s.countTrip.tripMode = .latch := by rw [tripMode_of_config (by simpa using hc), mode]; rfl
  rw [exec_trip due, actOnTrip_of_latch latch]

/-- A RETRY mode by its code: at the retry limit the trip latches with OVERDRAW_PERSISTENT, below it the mode's hold begins. -/
theorem exec_trip_retry (mode : 2 ≤ c.tripMode) : exec .trip s = .next (State.settle
    (if c.retryLimit ≤ min 255 (s.cmon.consecutive + 1) then fire .overdrawPersistent s.countTrip.latchTrip
      else s.countTrip.holdTrip (tripModeOf c.tripMode))) := by
  have config : s.countTrip.lport.config = some c := by simpa using hc
  have retry := tripModeOf_isRetry mode
  rw [← tripMode_of_config config] at retry
  simp only [exec_trip due, actOnTrip_of_retry retry, limitReached_iff config, countTrip_consecutive, tripMode_of_config config]

theorem exec_trip_escalates (mode : 2 ≤ c.tripMode) (limit : c.retryLimit ≤ min 255 (s.cmon.consecutive + 1)) :
    exec .trip s = .next (State.settle (fire .overdrawPersistent s.countTrip.latchTrip)) := by
  rw [exec_trip_retry due hc mode, if_pos limit]

theorem exec_trip_holds (mode : 2 ≤ c.tripMode) (below : min 255 (s.cmon.consecutive + 1) < c.retryLimit) :
    exec .trip s = .next (s.countTrip.holdTrip (tripModeOf c.tripMode)).settle := by
  rw [exec_trip_retry due hc mode, if_neg (Nat.not_le.2 below)]

end

end State

/-- Settles O42: an edge by the level of RESETN and by the hold that it finds; the ends of the timers by their own rules. -/
theorem monitorEvents : Obligations.MonitorEvents := by
  refine ⟨fun s rising held => State.exec_pwmeEdge_held rising held, fun s u rising b run codes hu => ?_, fun s ends => ?_,
    fun s n => rfl, fun s hold ends => ?_, fun s ends => ?_, fun s ends => ?_⟩
  · have blanks : s.blankingAtEdge = b := by
      rcases codes with ⟨bare, rfl⟩ | ⟨c, hc, code⟩
      · exact State.blankingAtEdge_of_bare bare
      · rw [State.blankingAtEdge_of_config hc]
        rcases code with ⟨code, rfl⟩ | ⟨code, rfl⟩ | ⟨code, rfl⟩ | ⟨code, rfl⟩ <;> rw [code] <;> rfl
    have taken : s.edgeTaken rising = u := by rw [hu, State.edgeTaken, s.tripDue_eq, blanks]
    rw [← taken]
    refine ⟨fun rises hold edge => ?_, State.exec_pwmeEdge_keepsHold run⟩
    subst rises
    exact State.exec_pwmeEdge_endsHold run hold edge
  · exact if_pos ((expired_eq_true_iff _).2 ends)
  · exact if_pos (s.holdEndDue_iff.2 ⟨hold, ends⟩)
  · exact if_pos ((expired_eq_true_iff _).2 ends)
  · exact if_pos ((expired_eq_true_iff _).2 ends)

/-- Settles O43: the trip is due, and each trip mode then acts on the counted trip. -/
theorem tripTaken : Obligations.TripTaken := by
  rintro s u l c hc member notLatched reached hu rfl
  have due : s.tripDue = true := s.tripDue_iff.2 ⟨member, notLatched, reached⟩
  rw [← s.countTrip_eq] at hu
  subst hu
  refine ⟨State.exec_trip_report due hc, State.exec_trip_latch due hc, State.exec_trip_escalates due hc, fun below => ?_⟩
  have holds (mode : 2 ≤ c.tripMode) := State.exec_trip_holds due hc mode below
  refine ⟨fun mode => ?_, fun mode => ?_, fun mode => ?_⟩
  all_goals
    rw [holds (by omega), mode]
    rfl

end Sys2Proof.Machine
end

section
/-! ## A cause that fires (O44) -/

namespace Sys2Proof.Machine

namespace State

variable {s : State} {k : AlarmKind}

/-- R164, R167: the firing of a cause whose flag is clear, in the two units that it changes. -/
theorem fire_of_clear (h : holdsKind s.au.flags k = false) : s.fire k = { s with
    au := { s.au with flags := s.au.flags ||| k.set }
    notices := if holdsKind s.au.forceMask k then { s.notices with au := s.notices.au ++ [.forceAlarm k] } else s.notices } := by
  rw [fire, h]
  cases holdsKind s.au.forceMask k <;> rfl

end State

/-- Settles O44: a set flag is left as it is, and of a clear one the firing is written out. -/
theorem alarmFires : Obligations.AlarmFires := by
  intro s k
  refine ⟨s.fire_of_set k, fun clear => ⟨s.holdsKind_fire k, ?_⟩⟩
  rw [State.fire_of_clear clear]
  exact ⟨rfl, rfl, fun forced => if_pos forced, fun free => if_neg (by simp [free])⟩

end Sys2Proof.Machine
end

section
/-! ## An alarm flag stays set until it is cleared (O45): the shared operations

A cause that fires only adds a flag, and beside it only CLEAR ALARMS and a full reset write the flags. So every other command leaves set
what was set before it (`AlarmsKept`). -/

namespace Sys2Proof.Machine

namespace State

/-! ### What leaves the flags alone -/

@[simp] theorem settle_flags (s : State) : s.settle.au.flags = s.au.flags := by rw [settle_au]

@[simp] theorem endOfCeEvent_flags (s : State) : s.endOfCeEvent.au.flags = s.au.flags := by simp [endOfCeEvent]

@[simp] theorem resolveWithdrawn_au (s : State) : s.resolveWithdrawn.au = s.au := s.resolve_au ..

@[simp] theorem becomeMember_au (s : State) : s.becomeMember.au = s.au := by
  unfold becomeMember
  split <;> rfl

@[simp] theorem settleToTarget_au (s : State) : s.settleToTarget.au = s.au := by
  unfold settleToTarget
  split
  · exact s.decrease_au
  · rfl

@[simp] theorem decideIntent_au (s : State) : s.decideIntent.au = s.au := by
  unfold decideIntent
  split
  · exact s.resolveWithdrawn_au
  · split
    · exact s.resolve_au ..
    · split
      · exact s.resolve_au ..
      · simp [resolveGranted]

@[simp] theorem takeReadback_au (s : State) : s.takeReadback.au = s.au := by
  unfold takeReadback
  split
  · exact s.resolveWithdrawn_au
  · rfl

@[simp] theorem ownGood_au (s : State) (mm : Bool) (d : Decoded) : (s.ownGood mm d).au = s.au := by
  unfold ownGood
  dsimp only
  split
  · split <;> simp
  all_goals exact s.unrefreshIf_au mm

@[simp] theorem ownRecord_au (s : State) (c : Content) : (s.ownRecord c).au = s.au := by
  unfold ownRecord
  split
  · rfl
  · split <;> simp

@[simp] theorem errorRecord_au (s : State) (fragment : Bool) : (s.errorRecord fragment).au = s.au := by
  unfold errorRecord
  split
  · rfl
  · exact s.unrefresh_au

@[simp] theorem openingSent_au (s : State) : s.openingSent.au = s.au := by
  unfold openingSent
  split
  · exact s.resolveWithdrawn_au
  · rfl

@[simp] theorem endSettling_au (s : State) : s.endSettling.au = s.au := by
  unfold endSettling
  split <;> rfl

@[simp] theorem takeRecalled_au (s : State) : s.takeRecalled.au = s.au := by
  unfold takeRecalled
  split <;> rfl

@[simp] theorem takeSent_au (s : State) (k : FrameKind) : (s.takeSent k).au = s.au := by
  unfold takeSent
  cases k with
  | intent =>
    dsimp only
    split <;> simp
  | settle =>
    dsimp only
    split <;> simp
  | leave =>
    dsimp only
    split <;> rfl
  | announce => rfl
  | check => rfl

@[simp] theorem takeDropped_au (s : State) (k : FrameKind) : (s.takeDropped k).au = s.au := by
  cases k with
  | intent => exact s.takeRecalled_au
  | settle => exact s.takeSent_au .settle
  | leave => exact s.takeSent_au .leave
  | announce => rfl
  | check => rfl

@[simp] theorem fallToFloor_au (s : State) : s.fallToFloor.au = s.au := by
  unfold fallToFloor
  split <;> simp

@[simp] theorem takeIsolationEnd_au (s : State) : s.takeIsolationEnd.au = s.au := by
  unfold takeIsolationEnd
  split <;> rfl

@[simp] theorem applyTarget_au (s : State) (target minStep : Nat) : (s.applyTarget target minStep).au = s.au := by
  unfold applyTarget
  dsimp only
  split
  · split <;> simp
  · rfl

@[simp] theorem handOff_au (s : State) (c : Classified) (bs : List Byte) : (s.handOff c bs).au = s.au := by
  unfold handOff alignAnnounce
  (repeat' split) <;> rfl

theorem frameStart_au {s t : State} (h : s.frameStart = some t) : t.au = s.au := by
  obtain ⟨frame, -, -⟩ := s.frameStart_frame t h
  exact (congrArg au frame :)

@[simp] theorem loseArbitration_au (s : State) (k : FrameKind) : (s.loseArbitration k).au = s.au := by
  unfold loseArbitration
  dsimp only
  split <;> simp [setCounters, releaseSdl]

@[simp] theorem beginRun_au (s : State) (m : CheckMode) (o : CheckOwner) : (s.beginRun m o).au = s.au := by simp [beginRun]

@[simp] theorem nextCheck_au (s : State) : s.nextCheck.au = s.au := by simp [nextCheck]

@[simp] theorem stopRun_au (s : State) : s.stopRun.au = s.au := by
  unfold stopRun
  (repeat' split) <;> rfl

@[simp] theorem holdTrip_au (s : State) (m : TripMode) : (s.holdTrip m).au = s.au := rfl

@[simp] theorem observeReleased_au (s : State) : s.observeReleased.au = s.au := by
  unfold observeReleased
  split <;> rfl

end State

/-- Every flag that is set in `s` is set in `t`. -/
def AlarmsKept (s t : State) : Prop := ∀ k, holdsKind s.au.flags k = true → holdsKind t.au.flags k = true

namespace AlarmsKept

variable {s t u : State}

theorem of_flags (same : t.au.flags = s.au.flags) : AlarmsKept s t := fun k set => by rwa [same]

theorem refl (s : State) : AlarmsKept s s := of_flags rfl

/-- What leaves the flags alone. -/
theorem frame (h : AlarmsKept s t) (same : u.au.flags = t.au.flags) : AlarmsKept s u :=
  fun k set => by rw [same]; exact h k set

theorem ite {p : Prop} [Decidable p] (ht : AlarmsKept s t) (hu : AlarmsKept s u) : AlarmsKept s (if p then t else u) := by
  split
  · exact ht
  · exact hu

theorem settle (h : AlarmsKept s t) : AlarmsKept s t.settle := h.frame t.settle_flags

theorem endOfCeEvent (h : AlarmsKept s t) : AlarmsKept s t.endOfCeEvent := h.frame t.endOfCeEvent_flags

/-- R164: firing a cause clears no flag. -/
theorem fire (h : AlarmsKept s t) (k : AlarmKind) : AlarmsKept s (t.fire k) := fun j set => by
  rw [State.holdsKind_fire, h j set, Bool.true_or]

/-! ### The frames, and the end of an attempt -/

/-- R17: an overrun is a cause. -/
theorem handRecord (h : AlarmsKept s t) (r : FrameRecord) : AlarmsKept s (t.handRecord r) :=
  ite h (ite (h.frame rfl) (fire (h.frame (by rfl)) .framesLost))

theorem discardFrame (h : AlarmsKept s t) (bs : List Byte) (n : Nat) (c : Content) : AlarmsKept s (t.discardFrame bs n c) :=
  (handRecord (h.frame (by rfl)) _).settle

/-- R36: a check that fails is a cause. -/
theorem checkFails (h : AlarmsKept s t) : AlarmsKept s t.checkFails :=
  (fire (h.frame (by rfl)) .lineFault).frame (congrArg Au.flags (State.afterCheck_au _ false))

theorem attemptSent (h : AlarmsKept s t) (good : Bool) : AlarmsKept s (t.attemptSent good) := by
  unfold State.attemptSent
  split
  · exact h
  · have ended : AlarmsKept s (t.setLtx { t.ltx with attempt := none }) := h.frame rfl
    exact ite (ite (ended.frame (by simp)) ended.checkFails) (ended.frame (by simp [State.giveLtx]))

theorem handOff (h : AlarmsKept s t) (c : Classified) (bs : List Byte) : AlarmsKept s (t.handOff c bs) := h.frame (by simp)

theorem frameEnds (h : AlarmsKept s t) (bs : List Byte) : AlarmsKept s (t.frameEnds bs) :=
  settle (attemptSent (handOff (handRecord (h.frame (by rfl)) _) _ _) _)

theorem attemptFailed (h : AlarmsKept s t) (k : FrameKind) (raise : PendEntry → PendEntry) :
    AlarmsKept s (t.attemptFailed k raise) := h.frame (by simp)

/-- R27: a transmit fault is a cause. -/
theorem meetFault (h : AlarmsKept s t) (k : FrameKind) : AlarmsKept s (t.meetFault k) := by
  have met (c : Counters) : AlarmsKept s (State.fire .lineFault (t.releaseSdl.sdlReadsRecessive.setCounters c)) :=
    fire (h.frame (by rfl)) .lineFault
  exact ite (met _).checkFails ((met _).attemptFailed _ _)

/-! ### The records and notices that fire a cause -/

/-- R67. -/
theorem checkDigest (h : AlarmsKept s t) (f : AnnounceFields) : AlarmsKept s (t.checkDigest f) := ite h (h.fire .configMismatch)

/-- R68. -/
theorem checkProfile (h : AlarmsKept s t) (f : AnnounceFields) : AlarmsKept s (t.checkProfile f) :=
  ite (h.fire .profileMismatch) h

theorem peerAnnounce (h : AlarmsKept s t) (x : Nat) (mm : Bool) (f : AnnounceFields) : AlarmsKept s (t.peerAnnounce x mm f) := by
  have updated : AlarmsKept s ((t.unrefreshIf mm).updatePeer x (t.applyAnnounce f)) := h.frame (by simp)
  exact ((updated.checkDigest f).checkProfile f).frame (by simp [State.peerAnnounce])

/-- R65. -/
theorem duplicateRecord (h : AlarmsKept s t) (mm : Bool) : AlarmsKept s (t.duplicateRecord mm) := by
  have unrefreshed : AlarmsKept s (t.unrefreshIf mm) := h.frame (by simp)
  exact (unrefreshed.fire .duplicateId).frame rfl

theorem confirm (h : AlarmsKept s t) (mm : Bool) : AlarmsKept s (t.confirm mm) := h.frame (by simp)

theorem fallToFloor (h : AlarmsKept s t) : AlarmsKept s t.fallToFloor := h.frame (by simp)

/-- R118. -/
theorem takeIsolated (h : AlarmsKept s t) : AlarmsKept s t.takeIsolated := by
  have isolated (c : OwnContext) : AlarmsKept s (State.fire .isolated (t.withdrawalCause.setOwn c)) :=
    fire (h.frame (by simp)) .isolated
  exact ite (isolated _).fallToFloor h

/-- R133. -/
theorem applyProfileChange (h : AlarmsKept s t) (b : Nat) : AlarmsKept s (t.applyProfileChange b) := by
  have shed : AlarmsKept s (t.unrefresh.withdrawWindow.proportionalShed b) := h.frame (by simp)
  exact ite (shed.fire .budgetDeficit) shed

/-! ### Trips and the shed line -/

theorem countTrip (h : AlarmsKept s t) : AlarmsKept s t.countTrip := (h.fire .trip).frame rfl

theorem latchTrip (h : AlarmsKept s t) : AlarmsKept s t.latchTrip := fire (h.frame (by rfl)) .tripLatched

theorem actOnTrip (h : AlarmsKept s t) : AlarmsKept s t.actOnTrip := by
  have retry (m : TripMode) : AlarmsKept s
      (if t.limitReached then State.fire .overdrawPersistent t.latchTrip else t.holdTrip m) :=
    ite (h.latchTrip.fire .overdrawPersistent) (h.frame rfl)
  unfold State.actOnTrip
  split
  · exact h
  · exact h.latchTrip
  · exact retry .retry20
  · exact retry .retry50
  · exact retry .retryEdge

theorem observeAsserted (h : AlarmsKept s t) : AlarmsKept s t.observeAsserted := fire (h.frame (by rfl)) .shedSeen

theorem observesDue (h : AlarmsKept s t) : AlarmsKept s t.observesDue :=
  ite h.observeAsserted.settle (ite (settle (h.frame (by simp))) h)

end AlarmsKept

end Sys2Proof.Machine
end

section
/-! ## An alarm flag stays set until it is cleared (O45): every command -/

namespace Sys2Proof.Machine

namespace AlarmsKept

variable {s t : State}

/-- A command whose occasion is absent changes nothing. -/
theorem stays (s : State) : Leads (.next s) (AlarmsKept s) := (leads_next ..).2 (.refl s)

theorem leads_flags (same : t.au.flags = s.au.flags) : Leads (.next t) (AlarmsKept s) := (leads_next ..).2 (of_flags same)

theorem leads_if {b : Bool} (h : AlarmsKept s t) : Leads (if b then .next t else .next s) (AlarmsKept s) :=
  leads_ite (fun _ => h) (.refl s)

theorem leads_flags_if {b : Bool} (same : t.au.flags = s.au.flags) :
    Leads (if b then .next t else .next s) (AlarmsKept s) := leads_if (of_flags same)

/-- The transaction and the response are no part of the Alarm Unit. -/
theorem leads_answer (request : Byte) (enough taken inRange : Bool) (carry : State → Carried)
    (same : (carry s.endTransaction).state.au.flags = s.au.flags) :
    Leads (.next (s.answer request enough taken inRange carry)) (AlarmsKept s) :=
  (leads_next ..).2 (s.answer_induction (AlarmsKept s) request enough taken inRange carry (.refl s) (fun _ => of_flags rfl)
    fun _ _ _ _ => of_flags same)

theorem execStartDelimiter (s : State) : Leads (execStartDelimiter s) (AlarmsKept s) := by
  unfold Machine.execStartDelimiter
  split
  · exact stays s
  · rename_i t ht
    exact leads_flags (by simp [State.frameStart_au ht])

theorem execMalformedStart (s : State) : Leads (execMalformedStart s) (AlarmsKept s) := by
  unfold Machine.execMalformedStart
  split
  · exact stays s
  · rename_i t ht
    have started : AlarmsKept s t := of_flags (by rw [State.frameStart_au ht])
    exact (leads_next ..).2 (started.discardFrame _ _ _)

theorem execViolation (s : State) : Leads (execViolation s) (AlarmsKept s) := by
  unfold Machine.execViolation
  split
  · exact (leads_next ..).2 ((refl s).discardFrame _ _ _)
  all_goals exact stays s

theorem execTooLong (s : State) : Leads (execTooLong s) (AlarmsKept s) := by
  unfold Machine.execTooLong
  split
  · split
    · exact (leads_next ..).2 ((refl s).discardFrame _ _ _)
    · exact stays s
  all_goals exact stays s

theorem execEndDelimiter (s : State) : Leads (execEndDelimiter s) (AlarmsKept s) := by
  have recessive : AlarmsKept s s.sdlTwoCellsRecessive := of_flags rfl
  unfold Machine.execEndDelimiter
  split
  · exact (leads_next ..).2 (recessive.frameEnds _)
  all_goals exact leads_if (recessive.attemptSent false).settle

theorem execLineIdle (s : State) : Leads (execLineIdle s) (AlarmsKept s) := by
  unfold Machine.execLineIdle
  split
  · split
    all_goals exact leads_flags (by simp)
  · exact stays s

theorem execWholeByte (s : State) (b : Byte) : Leads (execWholeByte b s) (AlarmsKept s) := by
  unfold Machine.execWholeByte
  split
  · split
    · dsimp only
      split
      all_goals exact leads_flags rfl
    · exact (leads_next ..).2 ((refl s).discardFrame _ _ _)
  all_goals exact stays s

theorem execAttemptStart (s : State) : Leads (execAttemptStart s) (AlarmsKept s) := by
  unfold Machine.execAttemptStart
  split
  · exact stays s
  · exact leads_flags rfl

theorem execLostArbitration (s : State) : Leads (execLostArbitration s) (AlarmsKept s) := by
  unfold Machine.execLostArbitration
  split
  · exact stays s
  · exact leads_flags (by simp)

theorem execTransmitFault (s : State) : Leads (execTransmitFault s) (AlarmsKept s) := by
  unfold Machine.execTransmitFault
  split
  · exact stays s
  · exact (leads_next ..).2 ((refl s).meetFault _).settle

theorem execTakeAnnounce (s : State) : Leads (execTakeAnnounce s) (AlarmsKept s) := by
  unfold Machine.execTakeAnnounce
  split
  · exact (leads_next ..).2 (endOfCeEvent ((peerAnnounce (t := s.dropHead) (of_flags rfl) _ _ _).confirm _))
  all_goals exact stays s

theorem execTakeDuplicateRecord (s : State) : Leads (execTakeDuplicateRecord s) (AlarmsKept s) := by
  unfold Machine.execTakeDuplicateRecord
  split
  · exact (leads_next ..).2 (endOfCeEvent (duplicateRecord (t := s.dropHead) (of_flags rfl) _))
  all_goals exact stays s

theorem execPeerLost (s : State) (id : Nat) : Leads (execPeerLost id s) (AlarmsKept s) := by
  unfold Machine.execPeerLost
  split
  · exact stays s
  · exact leads_flags_if (by simp [State.loseRecord, State.setPeers])

theorem execPeerForgotten (s : State) (id : Nat) : Leads (execPeerForgotten id s) (AlarmsKept s) := by
  unfold Machine.execPeerForgotten
  split
  · exact stays s
  · exact leads_flags_if (by simp [State.forgetRecord, State.setPeers])

theorem execIsolatedNotice (s : State) : Leads (execIsolatedNotice s) (AlarmsKept s) := by
  unfold Machine.execIsolatedNotice
  split
  · exact (leads_next ..).2 (endOfCeEvent (takeIsolated (t := s.takeLtx) (of_flags rfl)))
  · exact stays s

theorem execRejoinNotice (s : State) : Leads (execRejoinNotice s) (AlarmsKept s) := by
  unfold Machine.execRejoinNotice
  split
  · exact (leads_next ..).2 (endOfCeEvent (ite (of_flags rfl) (of_flags rfl)))
  · exact stays s

theorem execCheckPassed (s : State) : Leads (execCheckPassed s) (AlarmsKept s) := by
  unfold Machine.execCheckPassed
  split
  · exact (leads_next ..).2 (endOfCeEvent (ite (of_flags rfl) (of_flags rfl)))
  · exact stays s

theorem execShedEndNotice (s : State) : Leads (execShedEndNotice s) (AlarmsKept s) := by
  unfold Machine.execShedEndNotice
  split
  · split
    · exact stays s
    · exact leads_flags (by simp [State.takeSlu])
  · exact stays s

theorem execProfileChangeEvent (s : State) : Leads (execProfileChangeEvent s) (AlarmsKept s) := by
  have taken : AlarmsKept s s.takePfu := of_flags rfl
  unfold Machine.execProfileChangeEvent
  split
  · exact (leads_next ..).2 (endOfCeEvent (ite (taken.applyProfileChange _) taken))
  · exact stays s

theorem execPselChange (s : State) (a b c : Bool) : Leads (execPselChange a b c s) (AlarmsKept s) := by
  unfold Machine.execPselChange
  dsimp only
  split
  · exact leads_flags rfl
  · split
    · exact stays s
    · exact leads_flags rfl

theorem execShdLevelChange (s : State) (l : Level) : Leads (execShdLevelChange l s) (AlarmsKept s) := by
  unfold Machine.execShdLevelChange
  split
  · exact leads_flags rfl
  · split
    · exact stays s
    · exact (leads_next ..).2 ((refl s).observesDue.frame rfl)

theorem execPwmeEdge (s : State) (rising : Bool) : Leads (execPwmeEdge rising s) (AlarmsKept s) := by
  unfold Machine.execPwmeEdge
  dsimp only
  split
  · exact leads_flags rfl
  · split
    all_goals exact leads_flags (by simp [State.endHold])

theorem execTransactionStart (s : State) : Leads (execTransactionStart s) (AlarmsKept s) := by
  unfold Machine.execTransactionStart
  split
  · exact stays s
  · exact leads_flags rfl

/-- No command but FULL_RESET and CLEAR ALARMS clears a flag. -/
theorem exec (c : Instr) (noReset : c ≠ .fullReset) (noClear : ∀ ps, c ≠ .clearAlarms ps) :
    Leads (exec c s) (AlarmsKept s) := by
  cases c with
  | fullReset => exact absurd rfl noReset
  | clearAlarms ps => exact absurd rfl (noClear ps)
  -- These fire a cause, or may.
  | malformedStart => exact execMalformedStart s
  | violation => exact execViolation s
  | tooLong => exact execTooLong s
  | endDelimiter => exact execEndDelimiter s
  | wholeByte b => exact execWholeByte s b
  | transmitFault => exact execTransmitFault s
  | takeAnnounce => exact execTakeAnnounce s
  | takeDuplicateRecord => exact execTakeDuplicateRecord s
  | isolatedNotice => exact execIsolatedNotice s
  | profileChangeEvent => exact execProfileChangeEvent s
  | shdLevelChange l => exact execShdLevelChange s l
  | shdObservedAsserted => exact leads_if (refl s).observeAsserted.settle
  | trip => exact leads_if (refl s).countTrip.actOnTrip.settle
  -- The others leave the flags alone.
  | startDelimiter => exact execStartDelimiter s
  | lineIdle => exact execLineIdle s
  | sdlDominant => exact leads_flags (by simp)
  | attemptStart => exact execAttemptStart s
  | lostArbitration => exact execLostArbitration s
  | announceTimerExpiry | repeatTimerExpiry => exact leads_flags_if (by simp)
  | takeIntent | takeSettle | takeLeave | takeOwnRecord | takeErrorRecord | takeLossRecord | takeCheckRecord =>
    dsimp only [Machine.exec, execTakeIntent, execTakeSettle, execTakeLeave, execTakeOwnRecord, execTakeErrorRecord,
      execTakeLossRecord, execTakeCheckRecord]
    split
    · exact leads_flags (by simp)
    all_goals exact stays s
  | peerLost id => exact execPeerLost s id
  | peerForgotten id => exact execPeerForgotten s id
  | sentNotice | droppedNotice | recalledNotice | isolationEndNotice | checkFailed | shedStartNotice | forceAlarmNotice
  | clearedNotice =>
    dsimp only [Machine.exec, execSentNotice, execDroppedNotice, execRecalledNotice, execIsolationEndNotice, execCheckFailed,
      execShedStartNotice, execForceAlarmNotice, execClearedNotice]
    split
    · exact leads_flags (by simp [State.takeLtx, State.takeSlu, State.takeAu])
    · exact stays s
  | rejoinNotice => exact execRejoinNotice s
  | checkPassed => exact execCheckPassed s
  | shedEndNotice => exact execShedEndNotice s
  | holdWindowExpiry | retryTimerExpiry | listenTimerExpiry | duplicateTimerExpiry | shdObservedReleased | blankingEnd
  | followTimerExpiry => exact leads_flags_if (by simp)
  | recoveryTimerExpiry => exact leads_flags_if (by simp [State.giveSlu])
  | tripHoldEnd => exact leads_flags_if (by simp [State.endHold])
  | senseChange n => exact leads_flags (by simp)
  | pwmeEdge rising => exact execPwmeEdge s rising
  | pselChange a b c => exact execPselChange s a b c
  | isolationTimer3P | isolationTimer40P | settleTimerExpiry | cleanTimerExpiry | transactionWithoutRequest | unknownRequest _
  | nop | endOfFullReset | resetIgnoreEnd => exact leads_flags_if rfl
  | transactionStart => exact execTransactionStart s
  | readStatus => exact leads_answer _ _ _ _ _ rfl
  | readSnapshot ps => exact leads_answer _ _ _ _ _ rfl
  | readCapture => exact leads_answer _ _ _ _ _ rfl
  | readCounters ps => exact leads_answer _ _ _ _ _ (by dsimp only; split <;> rfl)
  | configure ps => exact leads_answer _ _ _ _ _ (by simp [State.storeConfig])
  | join => exact leads_answer _ _ _ _ _ (by simp)
  | lineCheck ps => exact leads_answer _ _ _ _ _ (by simp)
  | stopCheck => exact leads_answer _ _ _ _ _ (by simp)
  | leave => exact leads_answer _ _ _ _ _ (s.endTransaction.takeLeaveRequest.endOfCeEvent_flags)
  | setTarget ps => exact leads_answer _ _ _ _ _ (by simp)
  | reEnable => exact leads_answer _ _ _ _ _ (by simp [State.releaseLatch])
  | assertShed => exact leads_answer _ _ _ _ _ (by simp [State.setHostShed])
  | releaseShed => exact leads_answer _ _ _ _ _ (by simp [State.setHostShed])
  | takeSnapshot => exact leads_answer _ _ _ _ _ (s.endTransaction.snapshotTaken.endOfCeEvent_flags)

end AlarmsKept

/-! ### What CLEAR ALARMS clears -/

namespace State

theorem clearNamed_flags (s : State) (named : Word16) :
    (s.clearNamed named).au.flags = s.au.flags &&& ~~~(s.clearedSet named) := by
  rw [clearNamed_eq, settle_flags]

/-- R169: a cleared kind is named, and its standing cause is absent. -/
theorem named_of_clearedSet {s : State} {n : Nat} {k : AlarmKind} (h : holdsKind (s.clearedSet (BitVec.ofNat 16 n)) k = true) :
    n.testBit k.bit = true ∧ holdsKind s.standingCauses k = false := by
  rw [clearedSet, holdsKind_and, holdsKind_and, holdsKind_not, holdsKind_ofNat] at h
  simp only [Bool.and_eq_true, Bool.not_eq_true'] at h
  obtain ⟨⟨named, -⟩, absent⟩ := h
  exact ⟨named, absent⟩

/-- R169: a kind without a standing cause: the trip state, the isolated flag, the duplicate timer or SHD shows it. -/
theorem absent_of_not_standing {s : State} {k : AlarmKind} (h : holdsKind s.standingCauses k = false) :
    (k = .tripLatched → s.cmon.trip ≠ .latched) ∧ (k = .isolated → s.own.isolated = false) ∧
      (k = .duplicateId → s.view.duplicate = none) ∧ (k = .shedSeen → s.slu.observed = .released) := by
  have absent := mt (s.holdsKind_standingCauses k).2 (by simp [h])
  simp only [not_or, not_and] at absent
  obtain ⟨trip, isolated, duplicate, observed⟩ := absent
  refine ⟨trip, fun hk => by simpa using isolated hk, fun hk => by simpa using duplicate hk, fun hk => ?_⟩
  cases ho : s.slu.observed with
  | released => rfl
  | asserted => exact absurd ho (observed hk)

end State

/-- R169: the flags of `t` are those of `s`, or those of `s` without the cleared set of the kinds named. -/
def FlagsCleared (named : Word16) (s t : State) : Prop :=
  t.au.flags = s.au.flags ∨ t.au.flags = s.au.flags &&& ~~~(s.clearedSet named)

/-- The notices that CE takes before the clearing change neither the flags nor the cleared set. -/
theorem execClearAlarms_flags (s : State) (ps : List Byte) :
    Leads (execClearAlarms ps s) (FlagsCleared (BitVec.ofNat 16 (wordAt (portParams ps) 0)) s) := by
  refine (leads_next ..).2 (s.answer_induction (FlagsCleared _ s) _ _ _ _ _ (.inl rfl) (fun _ => .inl rfl)
    fun _ _ _ _ => .inr ?_)
  dsimp only
  rw [State.respond_au, State.clearNamed_flags, State.clearedSet_auNoticesTaken, State.auNoticesTaken_flags]
  rfl

/-- Settles O45: but for a full reset only CLEAR ALARMS clears a flag, and it clears those of its cleared set. -/
theorem alarmsAreSticky : Obligations.AlarmsAreSticky := by
  intro c s t k hexec set clear
  by_cases reset : c = .fullReset
  · exact .inl reset
  by_cases request : ∃ ps, c = .clearAlarms ps
  · obtain ⟨ps, rfl⟩ := request
    rcases execClearAlarms_flags s ps t hexec with same | taken
    · rw [same, set] at clear
      cases clear
    · rw [taken, holdsKind_and, holdsKind_not, set] at clear
      obtain ⟨named, absent⟩ := State.named_of_clearedSet (by simpa using clear)
      exact .inr ⟨ps, rfl, named, State.absent_of_not_standing absent⟩
  · have kept := AlarmsKept.exec c reset (fun ps hc => request ⟨ps, hc⟩) t hexec k set
    rw [clear] at kept
    cases kept

end Sys2Proof.Machine
end

section
/-! ## No command stops the block, and none touches the queue of commands waiting (O2): the operations

Beside the operations whose laws say so already, these keep the queue too. -/

namespace Sys2Proof.Machine

namespace State

variable (s : State)

/-! ### The own claim -/

@[simp] theorem resolveWithdrawn_pending : s.resolveWithdrawn.pending = s.pending := s.resolve_pending ..

@[simp] theorem becomeMember_pending : s.becomeMember.pending = s.pending := by
  unfold becomeMember
  split <;> rfl

@[simp] theorem settleToTarget_pending : s.settleToTarget.pending = s.pending := by
  unfold settleToTarget
  split
  · exact s.decrease_pending
  · rfl

@[simp] theorem decideIntent_pending : s.decideIntent.pending = s.pending := by
  unfold decideIntent
  split
  · exact s.resolveWithdrawn_pending
  · split
    · exact s.resolve_pending ..
    · split
      · exact s.resolve_pending ..
      · simp [resolveGranted]

@[simp] theorem takeReadback_pending : s.takeReadback.pending = s.pending := by
  unfold takeReadback
  split
  · exact s.resolveWithdrawn_pending
  · rfl

@[simp] theorem openingSent_pending : s.openingSent.pending = s.pending := by
  unfold openingSent
  split
  · exact s.resolveWithdrawn_pending
  · rfl

@[simp] theorem endSettling_pending : s.endSettling.pending = s.pending := by
  unfold endSettling
  split <;> rfl

@[simp] theorem fallToFloor_pending : s.fallToFloor.pending = s.pending := by
  unfold fallToFloor
  split
  · exact request_pending ..
  · rfl

@[simp] theorem applyTarget_pending (target minStep : Nat) : (s.applyTarget target minStep).pending = s.pending := by
  unfold applyTarget
  dsimp only
  split
  · split <;> simp
  · rfl

@[simp] theorem applyProfileChange_pending (b : Nat) : (s.applyProfileChange b).pending = s.pending := by
  simp [applyProfileChange]

/-! ### The records and notices that CE takes -/

@[simp] theorem ownGood_pending (mm : Bool) (d : Decoded) : (s.ownGood mm d).pending = s.pending := by
  unfold ownGood
  dsimp only
  split
  · split <;> simp
  all_goals exact s.unrefreshIf_pending mm

@[simp] theorem ownRecord_pending (c : Content) : (s.ownRecord c).pending = s.pending := by
  unfold ownRecord
  split
  · rfl
  · split <;> simp

@[simp] theorem duplicateRecord_pending (mm : Bool) : (s.duplicateRecord mm).pending = s.pending := by
  simp [duplicateRecord]

@[simp] theorem errorRecord_pending (fragment : Bool) : (s.errorRecord fragment).pending = s.pending := by
  unfold errorRecord
  split
  · rfl
  · exact s.unrefresh_pending

@[simp] theorem takeRecalled_pending : s.takeRecalled.pending = s.pending := by
  unfold takeRecalled
  split <;> rfl

@[simp] theorem takeSent_pending (k : FrameKind) : (s.takeSent k).pending = s.pending := by
  unfold takeSent
  cases k with
  | intent =>
    dsimp only
    split <;> simp
  | settle =>
    dsimp only
    split <;> simp
  | leave =>
    dsimp only
    split <;> rfl
  | announce => rfl
  | check => rfl

@[simp] theorem takeDropped_pending (k : FrameKind) : (s.takeDropped k).pending = s.pending := by
  cases k with
  | intent => exact s.takeRecalled_pending
  | settle => exact s.takeSent_pending .settle
  | leave => exact s.takeSent_pending .leave
  | announce => rfl
  | check => rfl

@[simp] theorem takeIsolated_pending : s.takeIsolated.pending = s.pending := by
  unfold takeIsolated
  split <;> simp

@[simp] theorem takeIsolationEnd_pending : s.takeIsolationEnd.pending = s.pending := by
  unfold takeIsolationEnd
  split <;> rfl

/-! ### The link -/

@[simp] theorem discardFrame_pending (bs : List Byte) (n : Nat) (c : Content) : (s.discardFrame bs n c).pending = s.pending := by
  simp [discardFrame]

@[simp] theorem handOff_pending (c : Classified) (bs : List Byte) : (s.handOff c bs).pending = s.pending := by
  unfold handOff alignAnnounce
  (repeat' split) <;> rfl

@[simp] theorem frameEnds_pending (bs : List Byte) : (s.frameEnds bs).pending = s.pending := by simp [frameEnds]

theorem frameStart_pending {s t : State} (h : s.frameStart = some t) : t.pending = s.pending := by
  obtain ⟨frame, -, -⟩ := s.frameStart_frame t h
  exact (congrArg pending frame :)

@[simp] theorem loseArbitration_pending (k : FrameKind) : (s.loseArbitration k).pending = s.pending := by
  unfold loseArbitration
  dsimp only
  split <;> simp [setCounters, releaseSdl]

@[simp] theorem meetFault_pending (k : FrameKind) : (s.meetFault k).pending = s.pending := by
  unfold meetFault
  dsimp only
  split <;> simp [setCounters, releaseSdl]

@[simp] theorem beginRun_pending (m : CheckMode) (o : CheckOwner) : (s.beginRun m o).pending = s.pending := by simp [beginRun]

@[simp] theorem nextCheck_pending : s.nextCheck.pending = s.pending := by simp [nextCheck]

@[simp] theorem stopRun_pending : s.stopRun.pending = s.pending := by
  unfold stopRun
  (repeat' split) <;> rfl

/-! ### Trips, the shed line and the alarms -/

@[simp] theorem countTrip_pending : s.countTrip.pending = s.pending := by simp [countTrip, setCounters]

@[simp] theorem latchTrip_pending : s.latchTrip.pending = s.pending := by simp [latchTrip]

@[simp] theorem actOnTrip_pending : s.actOnTrip.pending = s.pending := by
  unfold actOnTrip
  (repeat' split) <;> simp [holdTrip]

@[simp] theorem observeAsserted_pending : s.observeAsserted.pending = s.pending := by simp [observeAsserted, giveSlu]

@[simp] theorem observeReleased_pending : s.observeReleased.pending = s.pending := by
  unfold observeReleased
  split <;> rfl

@[simp] theorem observesDue_pending : s.observesDue.pending = s.pending := by
  rcases s.observesDue_cases with ⟨-, e⟩ | ⟨-, -, e⟩ | ⟨-, -, e⟩ <;> simp [e]

@[simp] theorem clearNamed_pending (named : Word16) : (s.clearNamed named).pending = s.pending := by
  rw [clearNamed_eq, settle_pending]

end State

end Sys2Proof.Machine
end

section
/-! ## No command stops the block, and none touches the queue of commands waiting (O2): every command -/

namespace Sys2Proof.Machine

/-- The outcome is a next state, with the queue of commands waiting as it is in `s`. -/
def AnswersNext (s : State) (o : Out) : Prop := ∃ t, o = .next t ∧ t.pending = s.pending

namespace AnswersNext

variable {s t : State}

theorem next (h : t.pending = s.pending) : AnswersNext s (.next t) := ⟨t, rfl, h⟩

/-- A command whose occasion is absent changes nothing. -/
theorem stays (s : State) : AnswersNext s (.next s) := next rfl

theorem ite {b : Bool} (h : t.pending = s.pending) : AnswersNext s (if b then .next t else .next s) := by
  cases b
  · exact stays s
  · exact next h

/-- The transaction and the response are no part of the queue. -/
theorem answer {request : Byte} {enough taken inRange : Bool} {carry : State → Carried}
    (h : (carry s.endTransaction).state.pending = s.pending) :
    AnswersNext s (.next (s.answer request enough taken inRange carry)) :=
  next (s.answer_induction (·.pending = s.pending) request enough taken inRange carry rfl (fun _ => rfl) fun _ _ _ _ => h)

theorem execStartDelimiter (s : State) : AnswersNext s (execStartDelimiter s) := by
  unfold Machine.execStartDelimiter
  split
  · exact stays s
  · rename_i t ht
    exact next ((t.setLrxState_pending _).trans (State.frameStart_pending ht))

theorem execMalformedStart (s : State) : AnswersNext s (execMalformedStart s) := by
  unfold Machine.execMalformedStart
  split
  · exact stays s
  · rename_i t ht
    exact next ((t.discardFrame_pending ..).trans (State.frameStart_pending ht))

theorem execViolation (s : State) : AnswersNext s (execViolation s) := by
  unfold Machine.execViolation
  split
  · exact next (s.discardFrame_pending ..)
  all_goals exact stays s

theorem execTooLong (s : State) : AnswersNext s (execTooLong s) := by
  unfold Machine.execTooLong
  split
  · split
    · exact next (s.discardFrame_pending ..)
    · exact stays s
  all_goals exact stays s

theorem execEndDelimiter (s : State) : AnswersNext s (execEndDelimiter s) := by
  unfold Machine.execEndDelimiter
  split
  · exact next (by simp)
  all_goals exact ite (by simp)

theorem execLineIdle (s : State) : AnswersNext s (execLineIdle s) := by
  unfold Machine.execLineIdle
  split
  · split
    all_goals exact next (by simp)
  · exact stays s

theorem execWholeByte (s : State) (b : Byte) : AnswersNext s (execWholeByte b s) := by
  unfold Machine.execWholeByte
  split
  · split
    · dsimp only
      split
      all_goals exact next rfl
    · exact next (s.discardFrame_pending ..)
  all_goals exact stays s

theorem execAttemptStart (s : State) : AnswersNext s (execAttemptStart s) := by
  unfold Machine.execAttemptStart
  split
  · exact stays s
  · exact next rfl

theorem execLostArbitration (s : State) : AnswersNext s (execLostArbitration s) := by
  unfold Machine.execLostArbitration
  split
  · exact stays s
  · exact next (s.loseArbitration_pending _)

theorem execTransmitFault (s : State) : AnswersNext s (execTransmitFault s) := by
  unfold Machine.execTransmitFault
  split
  · exact stays s
  · exact next (by simp)

theorem execPeerLost (s : State) (id : Nat) : AnswersNext s (execPeerLost id s) := by
  unfold Machine.execPeerLost
  split
  · exact stays s
  · exact ite (by simp [State.loseRecord, State.setPeers])

theorem execPeerForgotten (s : State) (id : Nat) : AnswersNext s (execPeerForgotten id s) := by
  unfold Machine.execPeerForgotten
  split
  · exact stays s
  · exact ite (by simp [State.forgetRecord, State.setPeers])

theorem execRejoinNotice (s : State) : AnswersNext s (execRejoinNotice s) := by
  unfold Machine.execRejoinNotice
  split
  · refine next ((State.endOfCeEvent_pending _).trans ?_)
    split <;> rfl
  · exact stays s

theorem execCheckPassed (s : State) : AnswersNext s (execCheckPassed s) := by
  unfold Machine.execCheckPassed
  split
  · refine next ((State.endOfCeEvent_pending _).trans ?_)
    split <;> rfl
  · exact stays s

theorem execShedEndNotice (s : State) : AnswersNext s (execShedEndNotice s) := by
  unfold Machine.execShedEndNotice
  split
  · split
    · exact stays s
    · exact next (State.endOfCeEvent_pending _)
  · exact stays s

theorem execProfileChangeEvent (s : State) : AnswersNext s (execProfileChangeEvent s) := by
  unfold Machine.execProfileChangeEvent
  split
  · refine next ((State.endOfCeEvent_pending _).trans ?_)
    split
    · exact State.applyProfileChange_pending ..
    · rfl
  · exact stays s

theorem execPselChange (s : State) (a b c : Bool) : AnswersNext s (execPselChange a b c s) := by
  unfold Machine.execPselChange
  dsimp only
  split
  · exact next rfl
  · split
    · exact stays s
    · exact next rfl

theorem execShdLevelChange (s : State) (l : Level) : AnswersNext s (execShdLevelChange l s) := by
  unfold Machine.execShdLevelChange
  split
  · exact next rfl
  · split
    · exact stays s
    · exact next s.observesDue_pending

theorem execPwmeEdge (s : State) (rising : Bool) : AnswersNext s (execPwmeEdge rising s) := by
  unfold Machine.execPwmeEdge
  dsimp only
  split
  · exact next rfl
  · split
    all_goals exact next (State.settle_pending _)

theorem execTransactionStart (s : State) : AnswersNext s (execTransactionStart s) := by
  unfold Machine.execTransactionStart
  split
  · exact stays s
  · exact next rfl

/-- Every command answers a next state, and leaves the queue to the sender. -/
theorem exec (c : Instr) (s : State) : AnswersNext s (exec c s) := by
  cases c with
  | fullReset => exact next rfl
  | startDelimiter => exact execStartDelimiter s
  | malformedStart => exact execMalformedStart s
  | violation => exact execViolation s
  | tooLong => exact execTooLong s
  | endDelimiter => exact execEndDelimiter s
  | wholeByte b => exact execWholeByte s b
  | lineIdle => exact execLineIdle s
  | sdlDominant => exact next (by simp)
  | attemptStart => exact execAttemptStart s
  | lostArbitration => exact execLostArbitration s
  | transmitFault => exact execTransmitFault s
  | announceTimerExpiry | repeatTimerExpiry => exact ite (by simp)
  | takeAnnounce | takeIntent | takeSettle | takeLeave | takeOwnRecord | takeDuplicateRecord | takeErrorRecord | takeLossRecord
  | takeCheckRecord =>
    dsimp only [Machine.exec, execTakeAnnounce, execTakeIntent, execTakeSettle, execTakeLeave, execTakeOwnRecord,
      execTakeDuplicateRecord, execTakeErrorRecord, execTakeLossRecord, execTakeCheckRecord]
    split
    · exact next (by simp)
    all_goals exact stays s
  | peerLost id => exact execPeerLost s id
  | peerForgotten id => exact execPeerForgotten s id
  | sentNotice | droppedNotice | recalledNotice | isolatedNotice | isolationEndNotice | checkFailed | shedStartNotice
  | forceAlarmNotice | clearedNotice =>
    dsimp only [Machine.exec, execSentNotice, execDroppedNotice, execRecalledNotice, execIsolatedNotice, execIsolationEndNotice,
      execCheckFailed, execShedStartNotice, execForceAlarmNotice, execClearedNotice]
    split
    · exact next (by simp [State.takeLtx, State.takeSlu, State.takeAu])
    · exact stays s
  | rejoinNotice => exact execRejoinNotice s
  | checkPassed => exact execCheckPassed s
  | shedEndNotice => exact execShedEndNotice s
  | profileChangeEvent => exact execProfileChangeEvent s
  | holdWindowExpiry | retryTimerExpiry | listenTimerExpiry | duplicateTimerExpiry | shdObservedAsserted | shdObservedReleased
  | blankingEnd | followTimerExpiry | trip => exact ite (by simp)
  | recoveryTimerExpiry => exact ite (by simp [State.giveSlu])
  | tripHoldEnd => exact ite (by simp [State.endHold])
  | senseChange n => exact next (by simp)
  | pwmeEdge rising => exact execPwmeEdge s rising
  | pselChange a b c => exact execPselChange s a b c
  | shdLevelChange l => exact execShdLevelChange s l
  | isolationTimer3P | isolationTimer40P | settleTimerExpiry | cleanTimerExpiry | transactionWithoutRequest | unknownRequest _
  | nop | endOfFullReset | resetIgnoreEnd => exact ite rfl
  | transactionStart => exact execTransactionStart s
  | readStatus | readSnapshot _ | readCapture => exact answer rfl
  | readCounters ps => exact answer (by dsimp only; split <;> rfl)
  | configure ps => exact answer (by simp [State.storeConfig])
  | join | lineCheck _ | stopCheck | setTarget _ | clearAlarms _ => exact answer (by simp)
  | leave => exact answer (s.endTransaction.takeLeaveRequest.endOfCeEvent_pending)
  | takeSnapshot => exact answer (s.endTransaction.snapshotTaken.endOfCeEvent_pending)
  | reEnable => exact answer (by simp [State.releaseLatch])
  | assertShed | releaseShed => exact answer (by simp [State.setHostShed])

end AnswersNext

/-- On an empty queue the block lets time pass or takes an event of its own. -/
theorem ownStep_answers (s : State) : ∃ t, ownStep s = .next t := by
  unfold ownStep
  split
  · exact ⟨_, rfl⟩
  · split
    · exact ⟨_, rfl⟩
    · rename_i c _
      obtain ⟨t, answers, -⟩ := AnswersNext.exec c (s.setFreeCount (s.freeCount + 1))
      exact ⟨t, answers⟩

/-- Settles O2: the commands one by one, then a step by whether a command waits. -/
theorem everyCommandAnswersNext : Obligations.EveryCommandAnswersNext := by
  refine ⟨AnswersNext.exec, fun s => ?_⟩
  unfold step
  split
  · exact ownStep_answers s
  · rename_i c rest _
    obtain ⟨t, answers, -⟩ := AnswersNext.exec c (s.setPending rest)
    exact ⟨t, answers⟩

end Sys2Proof.Machine
end

section
/-! ## What the port answers, test by test (O47)

Each request is one `State.answer`, whose tests come in the order of R174; `State.refused` is the state after one that failed a
test. -/

namespace Sys2Proof.Machine

namespace State

variable {s : State}

/-- R174: the transaction is over, and the response slot says why the request was not carried out, without data. -/
def refused (s : State) (code : RespCode) (request : Byte) : State := s.endTransaction.respond code request []

section answers

variable {request : Byte} {enough taken inRange : Bool} {carry : State → Carried}

theorem next_answer_of_no_edge (h : s.transactionEnds = false) :
    (.next (s.answer request enough taken inRange carry) : Out) = .next s := by
  rw [answer_of_no_edge _ _ _ _ _ _ h]

theorem next_answer_of_short (ht : s.transactionEnds = true) (short : enough = false) :
    (.next (s.answer request enough taken inRange carry) : Out) = .next (s.refused .badValue request) := by
  rw [short, answer_of_short _ _ _ _ _ ht, refused]

theorem next_answer_of_not_taken (ht : s.transactionEnds = true) (long : enough = true) (untaken : taken = false) :
    (.next (s.answer request enough taken inRange carry) : Out) = .next (s.refused .refusedState request) := by
  rw [long, untaken, answer_of_not_taken _ _ _ _ ht, refused]

theorem next_answer_of_out_of_range (ht : s.transactionEnds = true) (long : enough = true) (takes : taken = true)
    (out : inRange = false) :
    (.next (s.answer request enough taken inRange carry) : Out) = .next (s.refused .badValue request) := by
  rw [long, takes, out, answer_of_out_of_range _ _ _ ht, refused]

theorem next_answer_of_carried (ht : s.transactionEnds = true) (long : enough = true) (takes : taken = true)
    (inside : inRange = true) :
    (.next (s.answer request enough taken inRange carry) : Out) =
      .next ((carry s.endTransaction).state.respond (carry s.endTransaction).code request (carry s.endTransaction).data) := by
  rw [long, takes, inside, answer_of_carried _ _ _ ht]

end answers

/-! ### The states that take a request (R175) -/

theorem configured_eq_false_iff : s.configured = false ↔ s.lport.config = none := Option.isSome_eq_false_iff.trans
  Option.isNone_iff_eq_none

theorem idleDetached_eq_true_iff : s.idleDetached = true ↔ s.own.attach = .detached ∧ s.ltx.check.run = none := by
  simp [idleDetached, lineCheckRunning]

theorem idleDetached_eq_false_iff : s.idleDetached = false ↔ s.own.attach ≠ .detached ∨ s.ltx.check.run ≠ none := by
  rw [← Bool.not_eq_true, idleDetached_eq_true_iff, not_and_or]

theorem mayCheck_eq_false_iff :
    s.mayCheck = false ↔ s.own.attach ≠ .detached ∨ s.ltx.check.run ≠ none ∨ s.lport.config = none := by
  rw [mayCheck, Bool.and_eq_false_iff, idleDetached_eq_false_iff, configured_eq_false_iff, or_assoc]

theorem mayTarget_eq_false_iff : s.mayTarget = false ↔ s.lport.config = none ∨ s.own.attach = .leaving := by
  rw [mayTarget, Bool.and_eq_false_iff, configured_eq_false_iff, bne_eq_false_iff_eq]

theorem mayStop_eq_false_iff : s.mayStop = false ↔ s.ltx.check.run = none ∨ s.ltx.check.owner ≠ some .host := by
  simp [mayStop, lineCheckRunning, imp_iff_not_or]

theorem attached_eq_false_iff : s.attached = false ↔ s.own.attach = .detached ∨ s.own.attach = .leaving := by
  rw [← Bool.not_eq_true, attached_eq_true_iff, not_and_or, not_not, not_not]

end State

/-- R181: there is no record at a section beyond the last one, in the OWN section of an empty snapshot, or at an index past a
section's end. -/
theorem Snapshot.part_eq_none_iff (b : Snapshot) (sect index : Nat) :
    b.part sect index = none ↔ 3 ≤ sect ∨ b.own = none ∧ sect = 0 ∨ sect = 0 ∧ 2 ≤ index ∨
      sect = 1 ∧ b.peers.length ≤ index ∨ sect = 2 ∧ b.intents.length ≤ index := by
  match sect with
  | 0 =>
    cases ho : b.own with
    | none => simp [part, ho]
    | some o =>
      match index with
      | 0 => simp [part, ho]
      | 1 => simp [part, ho]
      | _ + 2 => simp [part, ho]
  | 1 => simp [part]
  | 2 => simp [part]
  | _ + 3 => simp [part]

/-- Settles O47: each clause names the test of R174 at which the request fails, and the condition of R175 or the range that it
fails by. -/
theorem portTests : Obligations.PortTests := by
  intro s ps refuse ht href
  obtain rfl : refuse = s.refused := funext₂ href
  have short {n : Nat} (h : (portParams ps).length < n) : decide (n ≤ (portParams ps).length) = false :=
    decide_eq_false (Nat.not_le.2 h)
  have long {n : Nat} (h : n ≤ (portParams ps).length) : decide (n ≤ (portParams ps).length) = true := decide_eq_true h
  refine ⟨fun h => ⟨State.next_answer_of_short ht (short h), State.next_answer_of_short ht (short h)⟩,
    fun h => ⟨State.next_answer_of_short ht (short h), State.next_answer_of_short ht (short h)⟩,
    fun h => State.next_answer_of_short ht (short h), fun h => State.next_answer_of_short ht (short h),
    fun hl h => State.next_answer_of_not_taken ht (long hl) (State.idleDetached_eq_false_iff.2 h),
    fun hl ha hr hc => State.next_answer_of_out_of_range ht (long hl) (State.idleDetached_eq_true_iff.2 ⟨ha, hr⟩) hc,
    fun h => ⟨State.next_answer_of_not_taken ht rfl (State.mayCheck_eq_false_iff.2 h),
      fun hl => State.next_answer_of_not_taken ht (long hl) (State.mayCheck_eq_false_iff.2 h)⟩,
    fun ha hr hc hl hm => State.next_answer_of_out_of_range ht (long hl) (State.mayCheck_eq_true ha hr hc)
      (decide_eq_false (Nat.not_le.2 hm)),
    fun h => State.next_answer_of_not_taken ht rfl (State.attached_eq_false_iff.2 h),
    fun hl h => State.next_answer_of_not_taken ht (long hl) (State.mayTarget_eq_false_iff.2 h),
    fun hl hc ha h => State.next_answer_of_out_of_range ht (long hl) ?_ ?_,
    fun h => State.next_answer_of_not_taken ht rfl (beq_eq_false_iff_ne.2 h),
    fun h => ⟨State.next_answer_of_not_taken ht rfl (State.configured_eq_false_iff.2 h),
      State.next_answer_of_not_taken ht rfl (State.configured_eq_false_iff.2 h),
      State.next_answer_of_not_taken ht rfl (State.configured_eq_false_iff.2 h)⟩,
    fun hl h => State.next_answer_of_out_of_range ht (long hl) rfl (decide_eq_false (Nat.not_lt.2 h)),
    fun h => State.next_answer_of_not_taken ht rfl (State.mayStop_eq_false_iff.2 h),
    fun hl h => State.next_answer_of_out_of_range ht (long hl) rfl (decide_eq_false (Nat.not_le.2 h)),
    fun hl h => State.next_answer_of_out_of_range ht (long hl) rfl ?_⟩
  · rw [← Bool.not_eq_false, State.mayTarget_eq_false_iff]
    exact not_or.2 ⟨hc, ha⟩
  · rw [Bool.and_eq_false_iff, Bool.and_eq_false_iff, decide_eq_false_iff_not, decide_eq_false_iff_not, decide_eq_false_iff_not]
    omega
  · rw [(Snapshot.part_eq_none_iff ..).2 h]
    rfl

end Sys2Proof.Machine
end

section
/-! ## The reads at the port (O48) -/

namespace Sys2Proof.Machine

namespace State

variable {s : State}

/-- R181: READ SNAPSHOT of a record that there is. -/
theorem exec_readSnapshot {ps data : List Byte} (ht : s.transactionEnds = true) (hl : 2 ≤ (portParams ps).length)
    (hp : s.snap.part (byteAt (portParams ps) 0) (byteAt (portParams ps) 1) = some data) :
    exec (.readSnapshot ps) s =
      .next (s.endTransaction.respond .done codeReadSnapshot (s.snap.prefixBytes ++ data)) := by
  have present : (s.snap.part (byteAt (portParams ps) 0) (byteAt (portParams ps) 1)).isSome = true := by rw [hp]; rfl
  refine (next_answer_of_carried ht (decide_eq_true hl) rfl present).trans ?_
  rw [hp]
  rfl

/-- R184: READ COUNTERS copies the values, and zeroes them when the clear flag is 1. -/
theorem exec_readCounters {ps : List Byte} (ht : s.transactionEnds = true) (hl : 1 ≤ (portParams ps).length)
    (hf : byteAt (portParams ps) 0 ≤ 1) :
    exec (.readCounters ps) s = .next ((if byteAt (portParams ps) 0 = 1 then s.endTransaction.setCounters .zero
      else s.endTransaction).respond .done codeReadCounters s.lport.counters.bytes) :=
  next_answer_of_carried ht (decide_eq_true hl) rfl (decide_eq_true hf)

end State

/-- Settles O48: each read passes the tests of R174; what it answers is the record of the state as it was. -/
theorem portReads : Obligations.PortReads := by
  intro s ps put ht hput
  obtain rfl : put = fun data request => s.endTransaction.respond .done request data := funext₂ hput
  refine ⟨State.next_answer_of_carried ht rfl rfl rfl, fun hl _ hpre => ?_, State.next_answer_of_carried ht rfl rfl rfl,
    fun hl _ hdata => ?_⟩
  · subst hpre
    refine ⟨fun o ho h0 h1 => State.exec_readSnapshot ht hl ?_, fun o ho h0 h1 => State.exec_readSnapshot ht hl ?_,
      fun p h0 hp => State.exec_readSnapshot ht hl ?_, fun e h0 he => State.exec_readSnapshot ht hl ?_⟩
    · simp only [Snapshot.part, h0, h1, ho]
    · simp only [Snapshot.part, h0, h1, ho]
    · simp only [Snapshot.part, h0, hp, Option.map_some]
    · simp only [Snapshot.part, h0, he, Option.map_some]
  · subst hdata
    refine ⟨fun h0 => ?_, fun h1 => ?_⟩
    · rw [State.exec_readCounters ht hl (by omega), h0]
      rfl
    · rw [State.exec_readCounters ht hl (by omega), h1]
      rfl

end Sys2Proof.Machine
end

section
/-! ## Transactions, MISO, and the request that the received bytes bring (O46) -/

namespace Sys2Proof.Machine

namespace State

variable {s : State}

theorem portBlind_eq_true_iff : s.portBlind = true ↔ s.rst.held = true ∨ s.rst.blind ≠ none := by
  simp [portBlind, Option.isSome_iff_ne_none]

theorem portBlind_eq_false_iff : s.portBlind = false ↔ s.rst.held = false ∧ s.rst.blind = none := by
  simp [portBlind]

/-- R173: there is no edge of CSN without a transaction, or while the port is blind. -/
theorem transactionEnds_eq_false_iff :
    s.transactionEnds = false ↔ s.lport.transaction = none ∨ s.rst.held = true ∨ s.rst.blind ≠ none := by
  rw [transactionEnds, Bool.and_eq_false_iff, Bool.not_eq_false', portBlind_eq_true_iff, Option.isSome_eq_false_iff,
    Option.isNone_iff_eq_none]

/-! ### MISO -/

theorem misoByte_of_blind (h : s.portBlind = true) (k : Nat) : s.misoByte k = some 0 := if_pos h

theorem misoByte_of_seeing (h : s.portBlind = false) (k : Nat) :
    s.misoByte k = s.lport.transaction.map (fun copy => copy.getD k 0) := by
  rw [misoByte, h]
  rfl

/-! ### The start of a transaction -/

theorem exec_transactionStart_of_free (hb : s.portBlind = false) (ht : s.lport.transaction = none) :
    exec .transactionStart s = .next (s.setLport { s.lport with transaction := some s.lport.slot.bytes }) := by
  change execTransactionStart s = _
  rw [execTransactionStart, hb, ht]
  rfl

theorem exec_transactionStart_of_ignored (h : s.portBlind = true ∨ s.lport.transaction ≠ none) :
    exec .transactionStart s = .next s :=
  if_pos (by rwa [Bool.or_eq_true, Option.isSome_iff_ne_none])

end State

/-! ### Bytes and bits -/

/-- R174 test 1: a code that names no request. -/
theorem commandReceived_of_unknown {code : Byte} (h : code ∉ requestCodes) (ps : List Byte) :
    commandReceived (code :: ps) = .unknownRequest code := by
  simp only [requestCodes, List.mem_cons, List.not_mem_nil, or_false, not_or] at h
  simp [commandReceived, requestNamed, h]

/-- The bits of a byte by their place on the port, most significant first (R173). -/
theorem portBits_getD (b : Byte) (k : Nat) (h : k < 8) : (portBits b).getD k false = b.toNat.testBit (7 - k) := by
  simp [portBits, h]

/-- A request without an edge of CSN that ends a transaction changes nothing (log 12). -/
theorem exec_request_of_no_edge {s : State} (h : s.transactionEnds = false) (code : Byte) (ps : List Byte) :
    ∀ c ∈ [Instr.transactionWithoutRequest, .unknownRequest code, .nop, .readStatus, .readSnapshot ps, .readCapture,
      .readCounters ps, .configure ps, .join, .leave, .setTarget ps, .reEnable, .assertShed, .releaseShed, .clearAlarms ps,
      .takeSnapshot, .lineCheck ps, .stopCheck], exec c s = .next s := by
  have absent : ¬ s.transactionEnds = true := by rw [h]; decide
  have unknown : ¬ (s.transactionEnds && !namesRequest code) = true := by rw [h]; exact Bool.false_ne_true
  have ignored {request : Byte} {enough taken inRange : Bool} {carry : State → Carried} :
      (.next (s.answer request enough taken inRange carry) : Out) = .next s := State.next_answer_of_no_edge h
  simp only [List.forall_mem_cons]
  exact ⟨if_neg absent, if_neg unknown, if_neg absent, ignored, ignored, ignored, ignored, ignored, ignored, ignored, ignored,
    ignored, ignored, ignored, ignored, ignored, ignored, ignored, fun _ hc => nomatch hc⟩

/-- Settles O46: the edges of CSN by whether the port is blind and a transaction is in progress, then the bytes and bits of
both directions. -/
theorem portTransactions : Obligations.PortTransactions := by
  refine ⟨fun s => ?_, fun s hh hb ht => ?_, fun s h => ?_, fun s ht => ⟨if_pos ht, if_pos ht, fun code hc => if_pos ?_⟩,
    fun s copy k ht hh hb => ?_, fun s k => ⟨fun h => ?_, fun hh hb ht => ?_⟩, fun s copy ht => ?_,
    fun s code ps h => exec_request_of_no_edge (State.transactionEnds_eq_false_iff.2 h) code ps,
    ⟨rfl, fun code ps qs hqs => ?_⟩, fun bs rest h => ?_, fun s cycle => ?_⟩
  · rw [s.transactionEnds_iff, Option.isSome_iff_exists]
  · rw [State.exec_transactionStart_of_free (State.portBlind_eq_false_iff.2 ⟨hh, hb⟩) ht]
    rfl
  · exact State.exec_transactionStart_of_ignored (.inl (State.portBlind_eq_true_iff.2 h))
  · have unnamed : namesRequest code = false := by simpa [namesRequest] using hc
    rw [ht, unnamed]
    rfl
  · rw [State.misoByte_of_seeing (State.portBlind_eq_false_iff.2 ⟨hh, hb⟩), ht]
    rfl
  · exact State.misoByte_of_blind (State.portBlind_eq_true_iff.2 h) k
  · rw [State.misoByte_of_seeing (State.portBlind_eq_false_iff.2 ⟨hh, hb⟩), ht]
    rfl
  · exact State.exec_transactionStart_of_ignored (.inr (by simp [ht]))
  · subst hqs
    by_cases hc : code ∈ requestCodes
    · exact .inl (List.mem_map_of_mem (f := fun c => (c, commandReceived (c :: ps))) hc)
    · exact .inr ⟨hc, commandReceived_of_unknown hc ps⟩
  · exact congrArg commandReceived (wholeBytes_of_bytes bs rest h)
  · simp only [State.misoBit, portBits_getD _ _ (Nat.mod_lt cycle (by decide))]

end Sys2Proof.Machine
end

section
/-! ## A step with a command waiting (O1)

The counterpart, for a queue that is not empty, of `step_eq_tick` and `step_of_choice`. -/

namespace Sys2Proof.Machine

/-- The front command leaves the queue before it runs. -/
theorem step_of_waiting {s : State} {c : Instr} {rest : List Instr} (h : s.pending = c :: rest) :
    step s = exec c (s.setPending rest) := by
  simp only [step, h]

/-- Settles O1: the queue put in front of the state is replaced by its rest. -/
theorem stepTakesFrontCommand : Obligations.StepTakesFrontCommand := by
  intro c rest s
  calc step (s.setPending (c :: rest))
      = exec c ((s.setPending (c :: rest)).setPending rest) := step_of_waiting (s.setPending_pending (c :: rest))
    _ = exec c (s.setPending rest) := by rw [State.setPending_setPending]

end Sys2Proof.Machine
end
